-- ==== Sys2Proof/Word.lean ====
section
/-! DEFINITION. The word types of the block (spec/00_scope.md R6, R7; spec/30_encoding.md R80). -/

namespace Sys2Proof

/-- `u8`: the unit of every access and of both queues (R60, R66). -/
abbrev Byte := BitVec 8

/-- `u16`: an address or the engine's PC (R40, R60). -/
abbrev Addr := BitVec 16

/-- `i32`, the count a batch returns, and `u32`, a step count or the throttle rate (R7, R142). -/
abbrev Long := BitVec 32

/-- A `BUS` word `{RnW, A0, D[7:0]}` (R81). -/
abbrev BusWord := BitVec 10

/-- A `CMD` word `{VERB[7:0], HAS_ARG, ARG[31:0]}` (R88). -/
abbrev CmdWord := BitVec 41

/-- An `EVT` word `{REBOOT_REQ, TICK, BREAK}` (R94). -/
abbrev EvtWord := BitVec 3

/-- A `HOOK` word `{RESET, POLL}` (R95). -/
abbrev HookWord := BitVec 2

/-- A word together with the interface it stands on: "A decoder tells the format by the interface
the word arrives on" (R80). -/
inductive PortWord where
  | bus (w : BusWord)
  | cmd (w : CmdWord)
  | evt (w : EvtWord)
  | hook (w : HookWord)
  deriving DecidableEq, Repr

end Sys2Proof
end

