-- ==== Sys2Proof/Config.lean ====
section
/-! DEFINITION. Capacities, the implementation parameters of spec/00_scope.md R5, and the free values. -/

namespace Sys2Proof

/-- `RX_CAP`, "bounded byte queue (cap 256)" (R5, R23). -/
def rxCap : Nat := 256

/-- `TX_CAP`, "bounded byte buffer (cap 256)" (R5, R25). -/
def txCap : Nat := 256

/-- `MODE3_POLICY` (R5, R116). -/
inductive Mode3Policy where
  | refuse
  | asLine
  | asRaw
  deriving DecidableEq, Repr

/-- `ECHO_SEMANTICS` (R5, R115(b)). -/
inductive EchoSemantics where
  | levelHigh
  | levelLow
  | toggle
  deriving DecidableEq, Repr

/-- `BRK_CLEAR_POINT` (R5, R162). -/
inductive BrkClearPoint where
  | beforeDispatch
  | afterDispatch
  deriving DecidableEq, Repr

/-- `RUNUNTIL_BATCH` (R5, R171(a)). -/
inductive RunUntilBatch where
  | single
  | engine
  deriving DecidableEq, Repr

/-- The parameters of R5 that a rule of the block reads. They are plain data carried by the state
and written by no step, so that a statement about every state is one about every choice of them
(notes/assumptions/1.md). `R` and `AUTORUN` are state of their own; `STATUS_RSVD` is a free value. -/
structure Params where
  /-- `ACIA_BASE`, even (R62). -/
  aciaBase : Addr
  mode3Policy : Mode3Policy
  echoSemantics : EchoSemantics
  /-- `LINE_TERM`, the bytes that end a line (R121). -/
  lineTerm : List Byte
  brkClearPoint : BrkClearPoint
  runUntilBatch : RunUntilBatch
  /-- `DEBUG_ACCESS_ROUTED` (R63). -/
  debugAccessRouted : Bool
  deriving DecidableEq, Repr

/-- The values of R5 where it gives or recommends one; for the three it leaves open see
notes/assumptions/2.md (DESIGN CHOICE, unsafe only for claims about the reset state). -/
def Params.default : Params where
  aciaBase := 0x0000#16
  mode3Policy := .asLine
  echoSemantics := .levelHigh
  lineTerm := [0x0A#8]
  brkClearPoint := .beforeDispatch
  runUntilBatch := .single
  debugAccessRouted := false

/-- `STATUS_RSVD`, status bits 6:1, "any value", drawn anew at each status read (R111, U1, D4;
notes/assumptions/3.md). -/
opaque Config.statusRsvd : Nat → BitVec 6

/-- Where the engine's PC stands after `EngineReset()`: not in the source (N14;
notes/assumptions/8.md). -/
opaque Config.engineResetPC : Nat → Addr

end Sys2Proof
end

