-- ==== Sys2Proof/Syntax.lean ====
section
/-! DEFINITION. The operations of the block: one constructor per row of spec/opcode_table.json. -/

namespace Sys2Proof

/-- The 20 operations. Bits a row ignores are kept as operands, so that no bit of a word is lost;
the meanings do not read them. -/
inductive Instr where
  /-- `ACIA_SR`, status read (R111); `d` is the ignored `D` field of a read (R81). -/
  | aciaSr (d : Byte)
  /-- `ACIA_CW`, control write of `v` (R114). -/
  | aciaCw (v : Byte)
  /-- `ACIA_DR`, data read (R117); `d` is ignored (R81). -/
  | aciaDr (d : Byte)
  /-- `ACIA_DW`, data write of `v` (R120). -/
  | aciaDw (v : Byte)
  /-- `RUN`, console text `g` (R165); `ARG` is ignored when `HAS_ARG = 0` (R88). -/
  | run (arg : Long)
  /-- `GO_AT`, console text `g addr` (R166); `hi` is `ARG[31:16]`, zero by R88. -/
  | goAt (hi : BitVec 16) (addr : Addr)
  /-- `RUN_UNTIL`, console text `f addr` (R169). -/
  | runUntil (hi : BitVec 16) (target : Addr)
  /-- `STEP1`, console text `n` (R173); `ARG` is ignored. -/
  | step1 (arg : Long)
  /-- `STEP`, console text `n count` (R173). -/
  | stepN (count : Long)
  /-- `SET_PC`, console text `p addr` (R181). -/
  | setPc (hi : BitVec 16) (addr : Addr)
  /-- `WP_SET`, console text `w addr` (R182). -/
  | wpSet (hi : BitVec 16) (addr : Addr)
  /-- `REBOOT`, console text `x` (R180); `HAS_ARG` and `ARG` are ignored. -/
  | reboot (hasArg : Bool) (arg : Long)
  /-- `CTR_READ`, console text `y` (R150); `ARG` is ignored. -/
  | ctrRead (arg : Long)
  /-- `CTR_CLR`, console text `y 0` (R151). -/
  | ctrClr
  /-- `CMD_UNDEF`: a `CMD` word that no earlier row matches (R91, R185). -/
  | cmdUndef (w : CmdWord)
  /-- `BREAK` (R183), with the levels of the other two event lines of its word (R94, R212). -/
  | brk (tick rebootReq : Bool)
  /-- `TICK` (R147), with the levels of the other two lines. -/
  | tick (brk rebootReq : Bool)
  /-- `REBOOT_REQ` (R180, R179), with the levels of the other two lines. -/
  | rebootReq (brk tick : Bool)
  /-- `ACIA_POLL` (R125). -/
  | aciaPoll
  /-- `ACIA_RESET` (R128). -/
  | aciaReset
  deriving DecidableEq, Repr

end Sys2Proof
end

