-- ==== Sys2Proof/WellFormed.lean ====
section
/-! DEFINITION. The rows of the `CMD` table (spec/30_encoding.md R91) and the well-formed operations. -/

namespace Sys2Proof

/-- One row of R91's table: a word `w` selects it when `(w & mask) = pattern`. -/
structure CmdRow where
  mnemonic : String
  pattern : CmdWord
  mask : CmdWord
  deriving DecidableEq, Repr

/-- Whether a word selects a row (R91). -/
def CmdRow.selects (r : CmdRow) (w : CmdWord) : Bool := w &&& r.mask == r.pattern

/-- The rows of R91 above `CMD_UNDEF`, top to bottom. -/
def cmdRows : List CmdRow :=
  [ ⟨"RUN",       0x0CE00000000#41, 0x1FF00000000#41⟩,
    ⟨"GO_AT",     0x0CF00000000#41, 0x1FF00000000#41⟩,
    ⟨"RUN_UNTIL", 0x0CD00000000#41, 0x1FF00000000#41⟩,
    ⟨"STEP1",     0x0DC00000000#41, 0x1FF00000000#41⟩,
    ⟨"STEP",      0x0DD00000000#41, 0x1FF00000000#41⟩,
    ⟨"SET_PC",    0x0E100000000#41, 0x1FF00000000#41⟩,
    ⟨"WP_SET",    0x0EF00000000#41, 0x1FF00000000#41⟩,
    ⟨"REBOOT",    0x0F000000000#41, 0x1FE00000000#41⟩,
    ⟨"CTR_READ",  0x0F200000000#41, 0x1FF00000000#41⟩,
    ⟨"CTR_CLR",   0x0F300000000#41, 0x1FFFFFFFFFF#41⟩ ]

/-- The row's mnemonic in spec/opcode_table.json. -/
def Instr.mnemonic : Instr → String
  | .aciaSr _ => "ACIA_SR"
  | .aciaCw _ => "ACIA_CW"
  | .aciaDr _ => "ACIA_DR"
  | .aciaDw _ => "ACIA_DW"
  | .run _ => "RUN"
  | .goAt _ _ => "GO_AT"
  | .runUntil _ _ => "RUN_UNTIL"
  | .step1 _ => "STEP1"
  | .stepN _ => "STEP"
  | .setPc _ _ => "SET_PC"
  | .wpSet _ _ => "WP_SET"
  | .reboot _ _ => "REBOOT"
  | .ctrRead _ => "CTR_READ"
  | .ctrClr => "CTR_CLR"
  | .cmdUndef _ => "CMD_UNDEF"
  | .brk _ _ => "BREAK"
  | .tick _ _ => "TICK"
  | .rebootReq _ _ => "REBOOT_REQ"
  | .aciaPoll => "ACIA_POLL"
  | .aciaReset => "ACIA_RESET"

/-- Operations a word of the spec's formats stands for. An address operand has `ARG[31:16] = 0`
(R88); `CMD_UNDEF` holds a word no earlier row selects (R91); an event word with several lines at 1
is written with its lowest line's row (notes/assumptions/15.md). -/
def Instr.wellFormed : Instr → Bool
  | .goAt hi _ => hi == 0
  | .runUntil hi _ => hi == 0
  | .setPc hi _ => hi == 0
  | .wpSet hi _ => hi == 0
  | .cmdUndef w => cmdRows.all fun r => !r.selects w
  | .tick b _ => !b
  | .rebootReq b t => !b && !t
  | .aciaSr _ => true
  | .aciaCw _ => true
  | .aciaDr _ => true
  | .aciaDw _ => true
  | .run _ => true
  | .step1 _ => true
  | .stepN _ => true
  | .reboot _ _ => true
  | .ctrRead _ => true
  | .ctrClr => true
  | .brk _ _ => true
  | .aciaPoll => true
  | .aciaReset => true

end Sys2Proof
end

