-- ==== Sys2Proof/Decode.lean ====
section
/-! DEFINITION. The decoder and the encoder (spec/30_encoding.md R81 to R95). -/

namespace Sys2Proof

/-- Why a word stands for no operation. -/
inductive DecodeError where
  /-- An `EVT` word with every line at 0: no event occurs (R94). -/
  | noEvent
  /-- A `HOOK` word with neither strobe (R95). -/
  | noStrobe
  /-- A `HOOK` word with both strobes: "The controller never asserts both in one word" (R95). -/
  | bothStrobes
  deriving DecidableEq, Repr

/-- R82: operation select on `{RnW, A0}`; all four combinations are defined. -/
def decodeBus (w : BusWord) : Instr :=
  let d := w.extractLsb' 0 8
  match w.getLsbD 9, w.getLsbD 8 with
  | true,  false => .aciaSr d
  | false, false => .aciaCw d
  | true,  true  => .aciaDr d
  | false, true  => .aciaDw d

/-- The verb character of a `CMD` word (R88). -/
def cmdVerb (w : CmdWord) : Byte := w.extractLsb' 33 8

/-- `HAS_ARG` of a `CMD` word (R88). -/
def cmdHasArg (w : CmdWord) : Bool := w.getLsbD 32

/-- `ARG` of a `CMD` word (R88). -/
def cmdArg (w : CmdWord) : Long := w.extractLsb' 0 32

/-- The low half of `ARG`, an address operand (R88). -/
def argLow (arg : Long) : Addr := arg.extractLsb' 0 16

/-- The high half of `ARG`, zero for an address operand (R88). -/
def argHigh (arg : Long) : BitVec 16 := arg.extractLsb' 16 16

/-- R91 and R93, with the verb codes of R89; a word no row fits is `CMD_UNDEF`. -/
def decodeCmd (w : CmdWord) : Instr :=
  let arg := cmdArg w
  if cmdVerb w = 0x67#8 then      -- g
    if cmdHasArg w then .goAt (argHigh arg) (argLow arg) else .run arg
  else if cmdVerb w = 0x66#8 then -- f
    if cmdHasArg w then .runUntil (argHigh arg) (argLow arg) else .cmdUndef w
  else if cmdVerb w = 0x6E#8 then -- n
    if cmdHasArg w then .stepN arg else .step1 arg
  else if cmdVerb w = 0x70#8 then -- p
    if cmdHasArg w then .setPc (argHigh arg) (argLow arg) else .cmdUndef w
  else if cmdVerb w = 0x77#8 then -- w
    if cmdHasArg w then .wpSet (argHigh arg) (argLow arg) else .cmdUndef w
  else if cmdVerb w = 0x78#8 then -- x
    .reboot (cmdHasArg w) arg
  else if cmdVerb w = 0x79#8 then -- y
    if cmdHasArg w then
      if arg = 0 then .ctrClr else .cmdUndef w
    else .ctrRead arg
  else .cmdUndef w

/-- R94: one bit per line, any of which may be 1 together. The lowest line at 1 names the row. -/
def decodeEvt (w : EvtWord) : Except DecodeError Instr :=
  if w.getLsbD 0 then .ok (.brk (w.getLsbD 1) (w.getLsbD 2))
  else if w.getLsbD 1 then .ok (.tick false (w.getLsbD 2))
  else if w.getLsbD 2 then .ok (.rebootReq false false)
  else .error .noEvent

/-- R95: one-hot. -/
def decodeHook (w : HookWord) : Except DecodeError Instr :=
  match w.getLsbD 1, w.getLsbD 0 with
  | false, true  => .ok .aciaPoll
  | true,  false => .ok .aciaReset
  | false, false => .error .noStrobe
  | true,  true  => .error .bothStrobes

/-- The decoder: the interface tells the format (R80). -/
def decode : PortWord → Except DecodeError Instr
  | .bus w => .ok (decodeBus w)
  | .cmd w => .ok (decodeCmd w)
  | .evt w => decodeEvt w
  | .hook w => decodeHook w

/-- `{RnW, A0, D}` (R81). -/
def busWord (rnw a0 : Bool) (d : Byte) : BusWord :=
  BitVec.ofBool rnw ++ BitVec.ofBool a0 ++ d

/-- `{VERB, HAS_ARG, ARG}` (R88). -/
def cmdWord (verb : Byte) (hasArg : Bool) (arg : Long) : CmdWord :=
  verb ++ BitVec.ofBool hasArg ++ arg

/-- `{REBOOT_REQ, TICK, BREAK}` (R94). -/
def evtWord (rebootReq tick brk : Bool) : EvtWord :=
  BitVec.ofBool rebootReq ++ BitVec.ofBool tick ++ BitVec.ofBool brk

/-- The word of an operation (R81, R88, R94, R95). -/
def encode : Instr → PortWord
  | .aciaSr d => .bus (busWord true false d)
  | .aciaCw v => .bus (busWord false false v)
  | .aciaDr d => .bus (busWord true true d)
  | .aciaDw v => .bus (busWord false true v)
  | .run arg => .cmd (cmdWord 0x67#8 false arg)
  | .goAt hi addr => .cmd (cmdWord 0x67#8 true (hi ++ addr))
  | .runUntil hi target => .cmd (cmdWord 0x66#8 true (hi ++ target))
  | .step1 arg => .cmd (cmdWord 0x6E#8 false arg)
  | .stepN count => .cmd (cmdWord 0x6E#8 true count)
  | .setPc hi addr => .cmd (cmdWord 0x70#8 true (hi ++ addr))
  | .wpSet hi addr => .cmd (cmdWord 0x77#8 true (hi ++ addr))
  | .reboot hasArg arg => .cmd (cmdWord 0x78#8 hasArg arg)
  | .ctrRead arg => .cmd (cmdWord 0x79#8 false arg)
  | .ctrClr => .cmd (cmdWord 0x79#8 true 0)
  | .cmdUndef w => .cmd w
  | .brk tick rebootReq => .evt (evtWord rebootReq tick true)
  | .tick brk rebootReq => .evt (evtWord rebootReq true brk)
  | .rebootReq brk tick => .evt (evtWord true tick brk)
  | .aciaPoll => .hook 0b01#2
  | .aciaReset => .hook 0b10#2

/-- The word an opcode-table row's bits stand for: the width (as the table gives it, or rounded up
to whole bytes) tells the interface. Eight bits are an `EVT` word and two a `HOOK` word; bits above
the format's width must be 0 (notes/assumptions/21.md). -/
def tableWord (nbits w : Nat) : Option PortWord :=
  if nbits = 10 ∨ nbits = 16 then
    if w < 2 ^ 10 then some (.bus (BitVec.ofNat 10 w)) else none
  else if nbits = 41 ∨ nbits = 48 then
    if w < 2 ^ 41 then some (.cmd (BitVec.ofNat 41 w)) else none
  else if nbits = 3 ∨ nbits = 8 then
    if w < 2 ^ 3 then some (.evt (BitVec.ofNat 3 w)) else none
  else if nbits = 2 then
    if w < 2 ^ 2 then some (.hook (BitVec.ofNat 2 w)) else none
  else none

/-- The operation the decoder reads from an opcode-table row's bits. -/
def decodeTableWord (nbits w : Nat) : Option Instr :=
  match tableWord nbits w with
  | none => none
  | some pw =>
    match decode pw with
    | .ok i => some i
    | .error _ => none

end Sys2Proof
end

