-- ==== Sys2Proof/Machine/State.lean ====
section
/-! DEFINITION. The state of the block (spec/10_state.md R22 and R45), its faults and refusals, and
the state after power-on. -/

namespace Sys2Proof.Machine

/-- `bufferMode` (R27). -/
inductive BufferMode where
  | line
  | zeroDelayLine
  | raw
  deriving DecidableEq, Repr

/-- The kind of execution operation in progress (R36); `step k` has `k` batches still to do. -/
inductive Kind where
  | run
  | runUntil (target : Addr)
  | step (k : Long)
  deriving DecidableEq, Repr

/-- The phase of an iteration (R36, R163). Phases carry the iteration's locals: the count `c` the
batch returned, and the error code `err` that `COUNT` found. -/
inductive Phase where
  /-- `BATCH`: `false` before the call of `EngineBatch()`, `true` while the engine is inside it
  (notes/assumptions/23.md). -/
  | batch (inside : Bool)
  | count (c : Long)
  | throttle (c : Long)
  | suspended
  | poll (err : Option Long)
  | check (err : Option Long)
  deriving DecidableEq, Repr

/-- `ctl` (R36). -/
inductive Ctl where
  | idle
  | exec (kind : Kind) (phase : Phase)
  deriving DecidableEq, Repr

/-- The result of an execution operation (R184, R172). -/
inductive RunResult where
  | brk
  | target
  | engineError (code : Long)
  deriving DecidableEq, Repr

/-- What the block gives to the host and to the engine (R8, R38, R42, R184). -/
inductive Output where
  /-- `TxEmit(l)` (R123). -/
  | txEmit (l : List Byte)
  /-- `TermApply(m, e)` (R38, R114). -/
  | termApply (mode : BufferMode) (echo : Bool)
  /-- `IrqPulse()` (R125, R208). -/
  | irqPulse
  /-- The byte a status read or a data read returns (R111, R117). -/
  | busResult (b : Byte)
  /-- A call of `EngineBatch()`; `single` says that exactly one instruction is asked for (R161, R171). -/
  | engineBatch (single : Bool)
  /-- A call of `EngineReset()` (R180). -/
  | engineReset
  /-- The pair `CTR_READ` returns (R150). -/
  | counters (cycles : Nat) (rate : Long)
  /-- The result reported when an execution operation exits (R184). -/
  | result (r : RunResult)
  deriving DecidableEq, Repr

/-- Who presents a byte access (R63). -/
inductive Master where
  | engine
  | console
  deriving DecidableEq, Repr

/-- One move of an agent other than the controller (R10, R12, R220). -/
inductive Arrival where
  /-- An `EVT` word on the event lines (R94). -/
  | evt (w : EvtWord)
  /-- A one-byte access at an address; `data` is on the data lines, ignored on a read (R60, R63, R81). -/
  | access (master : Master) (rnw : Bool) (addr : Addr) (data : Byte)
  /-- A `CMD` word on the command port (R88). -/
  | cmd (w : CmdWord)
  /-- A line of text at the console (R90, R96). -/
  | line (text : List Byte)
  /-- `EngineBatch()` returns `c`, having left the PC at `pc` and, with `reboot`, having set
  `rebootRequested` (R161). -/
  | batchReturn (c : Long) (pc : Addr) (reboot : Bool)
  /-- The host makes the bytes of one more read of the receive stream available (R42, R127). -/
  | rx (l : List Byte)
  /-- The console's line reader takes one read of the receive stream (R42, R126). How many bytes it
  takes, and when, is the model's choice (notes/assumptions/34.md). -/
  | consoleRead
  /-- No other agent moves: the controller takes its turn. -/
  | quiet
  deriving DecidableEq, Repr

/-- The whole state. The first four groups are the spec's (R22, R40, R41, R42); the last one is the
model's own. -/
structure State where
  /-- The parameters of R5; written by no step. -/
  cfg : Params
  /-- The unread bytes `inData[inCur], ..., inData[inCur + inAvail - 1]` (R23). -/
  inBuf : List Byte
  /-- The read cursor of the batch last loaded (R23, R118(d)). -/
  inCur : Nat
  /-- The bytes `outData[0], ..., outData[outLen - 1]` (R25). -/
  outBuf : List Byte
  bufferMode : BufferMode
  interruptEnabled : Bool
  interruptPending : Bool
  echoEnabled : Bool
  cycleCounter : Nat
  /-- `R`, the throttle rate; 0 is unlimited (R32). -/
  rate : Long
  window : Nat
  tickFlag : Bool
  breakRequested : Bool
  ctl : Ctl
  watchpoint : Option Addr
  termExec : Bool
  /-- The engine's "mutable current-PC register" (R40). -/
  enginePC : Addr
  /-- The engine's flag (R41). -/
  rebootRequested : Bool
  /-- The automatic `RUN` after power-on is still to be done (R232). -/
  autorunPending : Bool
  /-- A command-loop iteration whose clear of `breakRequested` stands after its operation is in
  progress (R162, `after_dispatch`). -/
  clearPending : Bool
  /-- A reboot sequence has begun and its `RUN` has not (R180, notes/assumptions/33.md). -/
  rebooting : Bool
  /-- The strobe word on the HOOK interface, not yet served (R95). -/
  hook : Option HookWord
  /-- The receive stream, cut into the reads the host answers `RxTry()` with (R42, R127(e)). -/
  rx : List (List Byte)
  /-- Everything given to the host and the engine so far, oldest first. -/
  outputs : List Output
  /-- The moves the other agents make from here on, in order (R12). -/
  arrivals : List Arrival
  /-- How many free values have been drawn. -/
  draws : Nat
  deriving DecidableEq, Repr

/-- Why the machine stops. -/
inductive Fault where
  /-- Raised by `Machine.fetch` when both HOOK strobes stand at 1, a word "the controller never
  asserts" (R95). Safe: the model stops where the spec gives no effect. -/
  | bothHookStrobes
  deriving DecidableEq, Repr

/-- Why an operation has no meaning. -/
inductive Refusal where
  /-- Raised by `exec` for an instruction without a meaning; no arm answers it now. Safe. -/
  | notModelled (mnemonic : String)
  /-- Raised by `execAciaCw` for `MODE = 3` when the parameter `MODE3_POLICY` is `refuse`, which
  "gives a control write with `v[1:0] = 3` no meaning" (R116). Safe. -/
  | mode3Refused
  deriving DecidableEq, Repr

/-- The state after power-on (R230, R45, R232) for a choice of the startup parameters (R99, R220). -/
def State.powerOn (cfg : Params) (rate : Long) (autorun : Bool) : State where
  cfg := cfg
  inBuf := []
  inCur := 0
  outBuf := []
  bufferMode := .line
  interruptEnabled := false
  interruptPending := false
  echoEnabled := false
  cycleCounter := 0
  rate := rate
  window := 0
  tickFlag := false
  breakRequested := false
  ctl := .idle
  watchpoint := none
  termExec := false
  enginePC := 0
  rebootRequested := false
  autorunPending := autorun
  clearPending := false
  rebooting := false
  hook := none
  rx := []
  outputs := []
  arrivals := []
  draws := 0

/-- The machine right after power-on with the default parameters, no `-t` and no `-n`
(notes/assumptions/2.md, 5.md, 6.md, 7.md). -/
def State.reset : State := State.powerOn Params.default 0 true

end Sys2Proof.Machine
end

