-- ==== Sys2Proof/Machine/Flags.lean ====
section
/-! DEFINITION. The status byte, the fields of the control byte, and the flush condition
(spec/30_encoding.md R84 to R86, spec/40_acia_registers.md R111, R114, R121). -/

namespace Sys2Proof.Machine

/-- `{IRQ, STATUS_RSVD[5:0], RDA}`: bit 7, bits 6:1, bit 0 (R43, R85). -/
def statusByte (irq : Bool) (rsvd : BitVec 6) (rda : Bool) : Byte :=
  BitVec.ofBool irq ++ rsvd ++ BitVec.ofBool rda

/-- `IE`, bit 7 of `CONTROL` (R84). -/
def ctlIE (v : Byte) : Bool := v.getLsbD 7

/-- `ECHO`, bit 3 of `CONTROL` (R84). -/
def ctlEcho (v : Byte) : Bool := v.getLsbD 3

/-- `FLUSH`, bit 2 of `CONTROL` (R84). -/
def ctlFlush (v : Byte) : Bool := v.getLsbD 2

/-- `MODE`, bits 1:0 of `CONTROL` (R84). -/
def ctlMode (v : Byte) : BitVec 2 := v.extractLsb' 0 2

/-- The mode a `MODE` field selects (R86); `none` is value 3 under the policy `refuse` (R116). -/
def modeOf (p : Mode3Policy) (mode : BitVec 2) : Option BufferMode :=
  if mode = 0#2 then some .line
  else if mode = 1#2 then some .zeroDelayLine
  else if mode = 2#2 then some .raw
  else
    match p with
    | .refuse => none
    | .asLine => some .line
    | .asRaw => some .raw

/-- The new echo flag, from the old one and control bit 3 (R114, R115(b)). -/
def echoOf (sem : EchoSemantics) (old bit : Bool) : Bool :=
  match sem with
  | .levelHigh => bit
  | .levelLow => !bit
  | .toggle => if bit then !old else old

/-- Whether a data write of `v` that leaves `len` bytes in `outBuf` flushes it (R120, R121). -/
def flushes (lineTerm : List Byte) (mode : BufferMode) (v : Byte) (len : Nat) : Bool :=
  match mode with
  | .raw => true
  | .line => lineTerm.contains v || len == txCap
  | .zeroDelayLine => lineTerm.contains v || len == txCap

end Sys2Proof.Machine
end

