-- ==== Sys2Proof/Machine/Operands.lean ====
section
/-! DEFINITION. How operations get their operands: the address decode of a byte access
(spec/20_memory.md R62, spec/30_encoding.md R81) and the console's operand readers, which form a
`CMD` word from a line of text (spec/30_encoding.md R88 to R90, R93, R96, R97). -/

namespace Sys2Proof.Machine

/-- "Address bits 15 to 1 are compared with `ACIA_BASE[15:1]`" (R81); the block responds to exactly
two addresses (R62). `none` is an access that does not reach the block. -/
def busWordAt (base : Addr) (rnw : Bool) (addr : Addr) (data : Byte) : Option BusWord :=
  if addr.extractLsb' 1 15 = base.extractLsb' 1 15 then
    some (busWord rnw (addr.getLsbD 0) data)
  else none

/-- The address of the register that `A0` selects (R62, R81). -/
def aciaAddr (base : Addr) (a0 : Bool) : Addr :=
  base.extractLsb' 1 15 ++ BitVec.ofBool a0

/-- Whitespace of the console's text, in ASCII (notes/assumptions/22.md). -/
def isSpace (c : Byte) : Bool :=
  c == 0x20#8 || (0x09#8).ule c && c.ule 0x0D#8

/-- A decimal digit. -/
def isDigit (c : Byte) : Bool := (0x30#8).ule c && c.ule 0x39#8

/-- The value of a hexadecimal digit, upper or lower case (notes/assumptions/22.md). -/
def hexDigit (c : Byte) : Option Nat :=
  if isDigit c then some (c.toNat - 0x30)
  else if (0x41#8).ule c && c.ule 0x46#8 then some (c.toNat - 0x37)
  else if (0x61#8).ule c && c.ule 0x66#8 then some (c.toNat - 0x57)
  else none

/-- The number written by `digits` in a base. -/
def digitsValue (base : Nat) (digits : List Byte) : Nat :=
  digits.foldl (fun n c => base * n + (hexDigit c).getD 0) 0

/-- What an operand reader finds (R90). -/
inductive Operand where
  /-- No argument: `HAS_ARG = 0`. -/
  | absent
  /-- `HAS_ARG = 1` with this `ARG`. -/
  | value (n : Nat)
  /-- An argument past the stated limits, which is not presented to the block (U17). -/
  | overLimit
  deriving DecidableEq, Repr

/-- "hexadecimal unsigned 16-bit value": skip whitespace, stop at the first non-hex character (R90);
more than four digits are over the limit (U17). -/
def readHex (text : List Byte) : Operand :=
  let digits := (text.dropWhile isSpace).takeWhile fun c => (hexDigit c).isSome
  if digits.isEmpty then .absent
  else if digits.length ≤ 4 then .value (digitsValue 16 digits)
  else .overLimit

/-- "decimal integer": skip whitespace, stop at the first non-digit (R90); a minus sign and a value
above 2^32 - 1 are over the limit (U17). -/
def readDecimal (text : List Byte) : Operand :=
  let body := text.dropWhile isSpace
  let digits := body.takeWhile isDigit
  if body.head? = some 0x2D#8 then .overLimit
  else if digits.isEmpty then .absent
  else if digitsValue 10 digits < 2 ^ 32 then .value (digitsValue 10 digits)
  else .overLimit

/-- The argument of `y`: nothing, the literal `0`, or "any other argument" (R90, R96). For the last
R90 says only `ARG != 0`; which non-zero value it is is the model's choice: the number the token
writes, as for `y 5` in spec/95_test_vectors.md S12b, and 1 for any other token
(notes/assumptions/35.md). -/
def readZero (text : List Byte) : Operand :=
  let token := (text.dropWhile isSpace).takeWhile fun c => !isSpace c
  if token.isEmpty then .absent
  else if token = [0x30#8] then .value 0
  else
    let n := digitsValue 10 token
    if token.all isDigit && decide (0 < n) && decide (n < 2 ^ 32) then .value n else .value 1

/-- The operand of a verb: addresses for `f g p w`, the count of `n`, the literal of `y`; the other
verbs take none (R90). -/
def readOperand (verb : Byte) (text : List Byte) : Operand :=
  if verb = 0x66#8 || verb = 0x67#8 || verb = 0x70#8 || verb = 0x77#8 then readHex text
  else if verb = 0x6E#8 then readDecimal text
  else if verb = 0x79#8 then readZero text
  else .absent

/-- The most characters of an input line (R5, R96). -/
def lineCap : Nat := 79

/-- The `CMD` word of a console line (R88): "the first non-space character selects the verb;
remaining text is the argument stream" (R96). The command of a line past a stated limit "is not
presented to the block" (U17): no word. A blank line is the word 0, which R91 reads as `CMD_UNDEF`
(notes/assumptions/22.md). -/
def lineWord (text : List Byte) : Option CmdWord :=
  if lineCap < text.length then none
  else
    match text.dropWhile isSpace with
    | [] => some 0
    | verb :: args =>
      match readOperand verb args with
      | .absent => some (cmdWord verb false 0)
      | .value n => some (cmdWord verb true (BitVec.ofNat 32 n))
      | .overLimit => none

end Sys2Proof.Machine
end

