-- ==== Sys2Proof/Machine/Ops.lean ====
section
/-! DEFINITION. The named operations over the state that the meanings and the controller share. -/

namespace Sys2Proof.Machine

/-! ### Views -/

/-- `inAvail` (R23). -/
def State.inAvail (s : State) : Nat := s.inBuf.length

/-- `outLen` (R25). -/
def State.outLen (s : State) : Nat := s.outBuf.length

/-- `consoleActive` (R37). -/
def State.consoleActive (s : State) : Bool := s.ctl == .idle

/-- The bytes an output adds to the transmit stream (R8 `TxEmit`). -/
def Output.txBytes : Output → List Byte
  | .txEmit l => l
  | _ => []

/-- The transmit stream: "the concatenation, in order, of every list passed to `TxEmit`" (R42). -/
def State.tx (s : State) : List Byte := s.outputs.flatMap Output.txBytes

/-- The configuration an output applies to the terminal (R38). -/
def Output.applied : Output → Option (BufferMode × Bool)
  | .termApply m e => some (m, e)
  | _ => none

/-- The terminal configuration last applied by `TermApply` (R45). -/
def State.termApplied (s : State) : Option (BufferMode × Bool) :=
  (s.outputs.filterMap Output.applied).getLast?

/-- How many times `IrqPulse()` was called (R130(d)). -/
def State.pulses (s : State) : Nat := s.outputs.count .irqPulse

/-! ### ACIA -/

/-- Append an output. -/
def State.emit (s : State) (o : Output) : State :=
  { s with outputs := s.outputs ++ [o] }

/-- `Flush()` (R123, R124(a)). -/
def State.flush (s : State) : State :=
  { s with outBuf := [], outputs := s.outputs ++ [.txEmit s.outBuf] }

/-- `ACIA_RESET()` (R128): no `TxEmit`, no `TermApply`. -/
def State.resetAcia (s : State) : State :=
  { s with
    inBuf := []
    inCur := 0
    outBuf := []
    bufferMode := .line
    interruptEnabled := false
    interruptPending := false
    echoEnabled := false }

/-- A poll that finds `inBuf` empty takes the bytes `l` (R125): at most `RX_CAP` of them are loaded
and the bytes beyond stay in the receive stream (R127(d)); zero bytes are "no data" (R127(c)). -/
def State.load (s : State) (l : List Byte) (later : List (List Byte)) : State :=
  if l.isEmpty then { s with rx := later }
  else
    { s with
      inBuf := l.take rxCap
      inCur := 0
      rx := if l.length ≤ rxCap then later else l.drop rxCap :: later
      interruptPending := s.interruptPending || s.interruptEnabled
      outputs := if s.interruptEnabled then s.outputs ++ [.irqPulse] else s.outputs }

/-- `ACIA_POLL()` (R125, R127): `RxTry()` is called only when `inBuf` is empty. -/
def State.pollAcia (s : State) : State :=
  match s.inBuf, s.rx with
  | [], l :: later => s.load l later
  | [], [] => s
  | _ :: _, _ => s

/-! ### Execution operations -/

/-- Entry to an execution operation: `termExec <- true`, `ctl <- EXEC(kind, BATCH)` (R163, R164).
The automatic RUN of power-on is no longer to come (notes/assumptions/6.md). -/
def State.startExec (s : State) (kind : Kind) : State :=
  { s with termExec := true, ctl := .exec kind (.batch false), autorunPending := false }

/-- `EXIT(res)` (R163, R164, R184). When the operation belongs to a command-loop iteration whose
clear stands after the dispatch, the clear follows (R162). -/
def State.leaveExec (s : State) (r : RunResult) : State :=
  { s with
    termExec := false
    ctl := .idle
    outputs := s.outputs ++ [.result r]
    breakRequested := s.breakRequested && !s.clearPending
    clearPending := false }

/-- Taking the engine run-time error at `CHECK` (R200, R205): nothing is saved and nothing is
vectored; `breakRequested` is set, the block returns to command mode, the code is reported. -/
def State.takeEngineError (s : State) (code : Long) : State :=
  { s with breakRequested := true }.leaveExec (.engineError code)

/-- The start of a command-loop iteration: with `before_dispatch`, `breakRequested <- false` (R162).
This is also all there is to returning from an engine error (R206). -/
def State.beginIteration (s : State) : State :=
  { s with
    breakRequested := s.breakRequested && decide (s.cfg.brkClearPoint = .afterDispatch) }

/-- The command loop has control: `IDLE`, and no reboot sequence is on its way to its `RUN`. -/
def State.inCommandLoop (s : State) : Bool := decide (s.ctl = .idle) && !s.rebooting

/-- The end of the dispatch: with `after_dispatch`, `breakRequested <- false` once the command has
been executed (R162), so at the exit of an operation it started. -/
def State.endDispatch (s : State) : State :=
  { s with
    breakRequested :=
      s.breakRequested && !(decide (s.cfg.brkClearPoint = .afterDispatch) && s.inCommandLoop)
    clearPending :=
      s.clearPending || decide (s.cfg.brkClearPoint = .afterDispatch) && !s.inCommandLoop }

/-- One command-loop iteration (R162): the console presents a command only while `ctl = IDLE`, and
during an execution operation, the reboot's included, none is accepted (D33;
notes/assumptions/18.md). -/
def State.command (s : State) (body : State → State) : State :=
  if s.inCommandLoop then (body s.beginIteration).endDispatch else s

/-- The iteration of a line whose command is not presented (U17): the clear is made "on each
command-loop iteration (any verb, also a console-only verb or a syntax error)" (R162). -/
def State.rejectLine (s : State) : State := s.command fun t => t

/-- `EngineReset()` (R8): the engine's state is its own; where its PC then stands is a free value
(N14; notes/assumptions/8.md). -/
def State.resetEngine (s : State) : State :=
  { s with
    enginePC := Config.engineResetPC s.draws
    draws := s.draws + 1
    outputs := s.outputs ++ [.engineReset] }

/-- The reboot sequence begins with `ACIA_RESET` (R180), which the controller strobes (R95). `IDLE` is
left only by the sequence's `RUN` (R165). What follows the strobe is `State.finishReboot`. -/
def State.beginReboot (s : State) : State :=
  { s with hook := some 0b10#2, rebooting := true }

/-- The reboot sequence after `ACIA_RESET` (R180, R231): `EngineReset()`, the two clears, `RUN()`. -/
def State.finishReboot (s : State) : State :=
  { s.resetEngine with
    rebootRequested := false
    breakRequested := false
    rebooting := false }.startExec .run

/-! ### Events -/

/-- The event handlers: "only flag assignment" (R11, R147, R183). -/
def State.setEventFlags (s : State) (brk tick : Bool) : State :=
  { s with breakRequested := s.breakRequested || brk, tickFlag := s.tickFlag || tick }

/-- The end of a suspension, its event having set its flag (R146). -/
def State.endSuspension (s : State) (kind : Kind) : State :=
  { s with
    window := if s.tickFlag then 0 else s.window
    tickFlag := false
    ctl := .exec kind (.poll none) }

/-- The events of one `EVT` word (R94, R212). The flags are set; then, a TICK or a BREAK ends a
suspension (R145); and in `IDLE` a reboot begins on REBOOT_REQ, or on a TICK or BREAK that finds
`rebootRequested` set (R179, R180). Inside a reboot sequence only the flags are set (R11;
notes/assumptions/33.md). -/
def State.events (s : State) (brk tick rebootReq : Bool) : State :=
  let f := s.setEventFlags brk tick
  match s.ctl with
  | .idle =>
    if !s.rebooting && (rebootReq || (brk || tick) && s.rebootRequested) then f.beginReboot else f
  | .exec kind .suspended => if brk || tick then f.endSuspension kind else f
  | .exec _ _ => f

end Sys2Proof.Machine
end

