-- ==== Sys2Proof/Machine/Bus.lean ====
section
/-! DEFINITION. The four bus operations (spec/40_acia_registers.md R111 to R122). -/

namespace Sys2Proof.Machine

/-- `ACIA_SR` (R111): the returned bit 7 is the value before the clear; bits 6:1 are any value. -/
def execAciaSr (_d : Byte) (s : State) : Host.Outcome State Fault Refusal :=
  .next
    { s with
      interruptPending := false
      draws := s.draws + 1
      outputs := s.outputs ++
        [.busResult (statusByte s.interruptPending (Config.statusRsvd s.draws) (!s.inBuf.isEmpty))] }

/-- The fields of a control write other than the flush (R114): interrupt enable, mode, echo. -/
def State.setControl (s : State) (v : Byte) (m : BufferMode) : State :=
  { s with
    interruptEnabled := s.interruptEnabled || ctlIE v
    bufferMode := m
    echoEnabled := echoOf s.cfg.echoSemantics s.echoEnabled (ctlEcho v) }

/-- `TermApply(bufferMode, echoEnabled)` (R114), with the new values. -/
def State.applyTerm (s : State) : State := s.emit (.termApply s.bufferMode s.echoEnabled)

/-- `ACIA_CW` (R114, R116): enable, mode, echo, flush, then `TermApply` (R115(a)). -/
def execAciaCw (v : Byte) (s : State) : Host.Outcome State Fault Refusal :=
  match modeOf s.cfg.mode3Policy (ctlMode v) with
  | none => .refused .mode3Refused
  | some m =>
    let c := s.setControl v m
    .next (if ctlFlush v then c.flush else c).applyTerm

/-- `ACIA_DR` (R117): pop the head of `inBuf`, or return 0x00 when it is empty. -/
def execAciaDr (_d : Byte) (s : State) : Host.Outcome State Fault Refusal :=
  match s.inBuf with
  | [] => .next (s.emit (.busResult 0x00#8))
  | b :: rest => .next ({ s with inBuf := rest, inCur := s.inCur + 1 }.emit (.busResult b))

/-- `ACIA_DW` (R120): append, then flush on the condition of R121. -/
def execAciaDw (v : Byte) (s : State) : Host.Outcome State Fault Refusal :=
  let a := { s with outBuf := s.outBuf ++ [v] }
  .next (if flushes s.cfg.lineTerm s.bufferMode v a.outBuf.length then a.flush else a)

end Sys2Proof.Machine
end

