-- ==== Sys2Proof/Machine/Command.lean ====
section
/-! DEFINITION. The eleven commands (spec/41_throttle_timer.md R150, R151;
spec/42_step_break_controller.md R162 to R185). Each is one command-loop iteration (R162). -/

namespace Sys2Proof.Machine

/-- `RUN` (R165). -/
def execRun (_arg : Long) (s : State) : Host.Outcome State Fault Refusal :=
  .next (s.command fun t => t.startExec .run)

/-- `GO_AT` (R166): set the engine's PC, then `RUN`. -/
def execGoAt (_hi : BitVec 16) (addr : Addr) (s : State) : Host.Outcome State Fault Refusal :=
  .next (s.command fun t => { t with enginePC := addr }.startExec .run)

/-- `RUN_UNTIL` (R169). -/
def execRunUntil (_hi : BitVec 16) (target : Addr) (s : State) : Host.Outcome State Fault Refusal :=
  .next (s.command fun t => t.startExec (.runUntil target))

/-- `STEP(n)` (R173, R175(a)): with `n = 0`, no batch. -/
def State.startStep (s : State) (n : Long) : State :=
  if n = 0 then s else s.startExec (.step n)

/-- `STEP1`: `STEP` with `n = 1` (R173). -/
def execStep1 (_arg : Long) (s : State) : Host.Outcome State Fault Refusal :=
  .next (s.command fun t => t.startStep 1)

/-- `STEP` (R173). -/
def execStepN (count : Long) (s : State) : Host.Outcome State Fault Refusal :=
  .next (s.command fun t => t.startStep count)

/-- `SET_PC` (R181). -/
def execSetPc (_hi : BitVec 16) (addr : Addr) (s : State) : Host.Outcome State Fault Refusal :=
  .next (s.command fun t => { t with enginePC := addr })

/-- `WP_SET` (R182). -/
def execWpSet (_hi : BitVec 16) (addr : Addr) (s : State) : Host.Outcome State Fault Refusal :=
  .next (s.command fun t => { t with watchpoint := some addr })

/-- `REBOOT` as a command (R180): the sequence begins, and the controller goes on with it. -/
def execReboot (_hasArg : Bool) (_arg : Long) (s : State) : Host.Outcome State Fault Refusal :=
  .next (s.command fun t => t.beginReboot)

/-- `CTR_READ` (R150): the pair is given to the console. -/
def execCtrRead (_arg : Long) (s : State) : Host.Outcome State Fault Refusal :=
  .next (s.command fun t => t.emit (.counters t.cycleCounter t.rate))

/-- `CTR_CLR` (R151). -/
def execCtrClr (s : State) : Host.Outcome State Fault Refusal :=
  .next (s.command fun t => { t with cycleCounter := 0 })

/-- `CMD_UNDEF` (R185): nothing beyond the iteration's clear. -/
def execCmdUndef (_w : CmdWord) (s : State) : Host.Outcome State Fault Refusal :=
  .next (s.command fun t => t)

end Sys2Proof.Machine
end

