-- ==== Sys2Proof/Machine/Event.lean ====
section
/-! DEFINITION. The three asynchronous events (spec/30_encoding.md R94, spec/41_throttle_timer.md
R147, spec/42_step_break_controller.md R183, R179, R180). Each is named by a line of its word that
is 1; the other lines of the word take effect with it (R212). -/

namespace Sys2Proof.Machine

/-- `BREAK` (R183). -/
def execBrk (tick rebootReq : Bool) (s : State) : Host.Outcome State Fault Refusal :=
  .next (s.events true tick rebootReq)

/-- `TICK` (R147). -/
def execTick (brk rebootReq : Bool) (s : State) : Host.Outcome State Fault Refusal :=
  .next (s.events brk true rebootReq)

/-- `REBOOT_REQ` (R180): acted on only while `ctl = IDLE`. -/
def execRebootReq (brk tick : Bool) (s : State) : Host.Outcome State Fault Refusal :=
  .next (s.events brk tick true)

end Sys2Proof.Machine
end

