-- ==== Sys2Proof/Machine/Hook.lean ====
section
/-! DEFINITION. The two hook operations (spec/40_acia_registers.md R125 to R129). -/

namespace Sys2Proof.Machine

/-- `ACIA_POLL` (R125). -/
def execAciaPoll (s : State) : Host.Outcome State Fault Refusal := .next s.pollAcia

/-- `ACIA_RESET` (R128). -/
def execAciaReset (s : State) : Host.Outcome State Fault Refusal := .next s.resetAcia

end Sys2Proof.Machine
end

