-- ==== Sys2Proof/Machine/Dispatch.lean ====
section
/-! DEFINITION. One arm per operation. -/

namespace Sys2Proof.Machine

def exec (i : Instr) (s : State) : Host.Outcome State Fault Refusal :=
  match i with
  | .aciaSr d => Sys2Proof.Machine.execAciaSr d s
  | .aciaCw v => Sys2Proof.Machine.execAciaCw v s
  | .aciaDr d => Sys2Proof.Machine.execAciaDr d s
  | .aciaDw v => Sys2Proof.Machine.execAciaDw v s
  | .run arg => Sys2Proof.Machine.execRun arg s
  | .goAt hi addr => Sys2Proof.Machine.execGoAt hi addr s
  | .runUntil hi target => Sys2Proof.Machine.execRunUntil hi target s
  | .step1 arg => Sys2Proof.Machine.execStep1 arg s
  | .stepN count => Sys2Proof.Machine.execStepN count s
  | .setPc hi addr => Sys2Proof.Machine.execSetPc hi addr s
  | .wpSet hi addr => Sys2Proof.Machine.execWpSet hi addr s
  | .reboot hasArg arg => Sys2Proof.Machine.execReboot hasArg arg s
  | .ctrRead arg => Sys2Proof.Machine.execCtrRead arg s
  | .ctrClr => Sys2Proof.Machine.execCtrClr s
  | .cmdUndef w => Sys2Proof.Machine.execCmdUndef w s
  | .brk tick rebootReq => Sys2Proof.Machine.execBrk tick rebootReq s
  | .tick brk rebootReq => Sys2Proof.Machine.execTick brk rebootReq s
  | .rebootReq brk tick => Sys2Proof.Machine.execRebootReq brk tick s
  | .aciaPoll => Sys2Proof.Machine.execAciaPoll s
  | .aciaReset => Sys2Proof.Machine.execAciaReset s

end Sys2Proof.Machine
end

