-- ==== Sys2Proof/Machine/Controller.lean ====
section
/-! DEFINITION. The controller's own transitions: the phases of an iteration
(spec/42_step_break_controller.md R163, spec/41_throttle_timer.md R141 to R146). -/

namespace Sys2Proof.Machine

/-- Whether the coming batch is asked to be exactly one instruction: `breakRequested` is true before
the call (R161(c), R168, forced by `Step`, R174), or the operation is a `RunUntil` with
`RUNUNTIL_BATCH = single` (R171(a)). -/
def singleInstruction (kind : Kind) (brk : Bool) (p : RunUntilBatch) : Bool :=
  match kind with
  | .run => brk
  | .runUntil _ => brk || decide (p = .single)
  | .step _ => true

/-- `BATCH`, the call of `EngineBatch()`: a `Step` forces `breakRequested` first (R163, R174);
`RUNUNTIL_BATCH` does not write it (R171(a)). -/
def State.callEngine (s : State) (kind : Kind) : State :=
  { s with
    breakRequested := match kind with
      | .step _ => true
      | .run => s.breakRequested
      | .runUntil _ => s.breakRequested
    ctl := .exec kind (.batch true)
    outputs := s.outputs ++
      [.engineBatch (singleInstruction kind s.breakRequested s.cfg.runUntilBatch)] }

/-- `EngineBatch()` returns (R161(d), (e)): the PC is where the engine left it, and the engine may
have set `rebootRequested`. -/
def State.returnBatch (s : State) (kind : Kind) (c : Long) (pc : Addr) (reboot : Bool) : State :=
  { s with
    enginePC := pc
    rebootRequested := s.rebootRequested || reboot
    ctl := .exec kind (.count c) }

/-- `COUNT` (R141, R142(a)): a signed test; a count that is not positive is the error code. -/
def State.countPhase (s : State) (kind : Kind) (c : Long) : State :=
  if 0 < c.toInt then
    { s with cycleCounter := s.cycleCounter + c.toNat, ctl := .exec kind (.throttle c) }
  else { s with ctl := .exec kind (.poll (some c)) }

/-- `THROTTLE` (R143, R144): strict compare; `R = 0` leaves `window` alone. -/
def State.throttlePhase (s : State) (kind : Kind) (c : Long) : State :=
  if s.rate = 0 then { s with ctl := .exec kind (.poll none) }
  else
    { s with
      window := s.window + c.toNat
      ctl := .exec kind (if s.rate.toNat < s.window + c.toNat then .suspended else .poll none) }

/-- The next iteration (R163). -/
def State.nextIteration (s : State) (kind : Kind) : State :=
  { s with ctl := .exec kind (.batch false) }

/-- `CHECK` (R163, R167, R170, R174, R213): the error first, then the break, then the target or the
step count. -/
def State.checkPhase (s : State) (kind : Kind) (err : Option Long) : State :=
  match err with
  | some code => s.takeEngineError code
  | none =>
    match kind with
    | .run => if s.breakRequested then s.leaveExec .brk else s.nextIteration .run
    | .runUntil t =>
      if s.breakRequested then s.leaveExec .brk
      else if s.enginePC = t then s.leaveExec .target
      else s.nextIteration (.runUntil t)
    | .step k => if k = 1 then s.leaveExec .brk else s.nextIteration (.step (k - 1))

/-- The controller's turn. In `IDLE` it goes on with a reboot sequence (R180), does the automatic
`RUN` of power-on if that is still to come (R232), and otherwise waits for a command; inside a batch
it waits for the engine; in `SUSPENDED` it waits for an event (R145). In `POLL` it strobes the hook
(R126). -/
def State.turn (s : State) : State :=
  match s.ctl with
  | .idle =>
    if s.rebooting then s.finishReboot
    else if s.autorunPending then s.startExec .run else s
  | .exec kind (.batch false) => s.callEngine kind
  | .exec _ (.batch true) => s
  | .exec kind (.count c) => s.countPhase kind c
  | .exec kind (.throttle c) => s.throttlePhase kind c
  | .exec _ .suspended => s
  | .exec _ (.poll _) => { s with hook := some 0b01#2 }
  | .exec kind (.check err) => s.checkPhase kind err

end Sys2Proof.Machine
end

