-- ==== Sys2Proof/Machine/Fetch.lean ====
section
/-! DEFINITION. Which move comes next and, when it is a word on an interface, the operation it
decodes to (spec/20_memory.md R70 to R72, spec/30_encoding.md R80). The block fetches nothing from
memory (R75): words are presented to it. -/

namespace Sys2Proof.Machine

/-- The next move. -/
inductive Move where
  /-- An operation, executed at this state. -/
  | run (i : Instr) (s : State)
  /-- Another agent's move that is no operation of the block; the state after it. -/
  | done (s : State)
  /-- The controller's turn, at this state. -/
  | turn (s : State)
  /-- A word with no operation. -/
  | stop (f : Fault)
  deriving DecidableEq, Repr

/-- At the prompt the console may act: the command loop has control, with the automatic `RUN` done
(R162, R232). -/
def State.atPrompt (s : State) : Bool := s.inCommandLoop && !s.autorunPending

/-- The kind of the operation whose batch the engine is inside, if it is (R72). -/
def State.insideBatch (s : State) : Option Kind :=
  match s.ctl with
  | .exec kind (.batch true) => some kind
  | .exec _ _ => none
  | .idle => none

/-- The phase after a strobe: `POLL` waits for its own (R163). -/
def Phase.strobed (p : Phase) (w : HookWord) : Phase :=
  match p with
  | .poll err => if w.getLsbD 0 then .check err else .poll err
  | .batch inside => .batch inside
  | .count c => .count c
  | .throttle c => .throttle c
  | .suspended => .suspended
  | .check err => .check err

/-- A hook strobe has been served: the lines fall, and the controller goes on. -/
def State.hookServed (s : State) (w : HookWord) : State :=
  { s with
    hook := none
    ctl := match s.ctl with
      | .exec kind phase => .exec kind (phase.strobed w)
      | .idle => .idle }

/-- A byte access: the two addresses reach the ACIA, any other does not reach the block (R62). -/
def State.presentAccess (s : State) (rnw : Bool) (addr : Addr) (data : Byte) : Move :=
  match busWordAt s.cfg.aciaBase rnw addr data with
  | some w => .run (decodeBus w) s
  | none => .done s

/-- The next arrival, with `s` the state it stands in and `t` the state without it. The engine moves
only inside a batch (R72), the console only at the prompt (R162); until then their move waits and
the controller takes its turn (notes/assumptions/10.md). Events and receive bytes land anywhere
(R71, R220). The console takes bytes from the receive stream only by the move `consoleRead`, one read
of the stream at a time; a command word or a line takes none (the model's choice,
notes/assumptions/34.md). -/
def State.present (s t : State) : Arrival → Move
  | .evt w =>
    match decodeEvt w with
    | .ok i => .run i t
    | .error _ => .turn t
  | .access .engine rnw addr data =>
    match s.insideBatch with
    | some _ => t.presentAccess rnw addr data
    | none => .turn s
  | .access .console rnw addr data =>
    if s.atPrompt then
      if s.cfg.debugAccessRouted then t.presentAccess rnw addr data else .done t
    else .turn s
  | .cmd w => if s.atPrompt then .run (decodeCmd w) t else .turn s
  | .line text =>
    if s.atPrompt then
      match lineWord text with
      | some w => .run (decodeCmd w) t
      | none => .done t.rejectLine
    else .turn s
  | .batchReturn c pc reboot =>
    match s.insideBatch with
    | some kind => .done (t.returnBatch kind c pc reboot)
    | none => .turn s
  | .rx l => .done { t with rx := t.rx ++ [l] }
  | .consoleRead => if s.atPrompt then .done { t with rx := t.rx.drop 1 } else .turn s
  | .quiet => .turn t

/-- The next move: a standing hook strobe is served first, since the poll is part of the
controller's iteration or its reboot sequence; then the next arrival; with none, or with one that
has to wait, the controller takes its turn. -/
def fetch (s : State) : Move :=
  match s.hook with
  | some w =>
    match decodeHook w with
    | .ok i => .run i (s.hookServed w)
    | .error .noEvent => .done { s with hook := none }
    | .error .noStrobe => .done { s with hook := none }
    | .error .bothStrobes => .stop .bothHookStrobes
  | none =>
    match s.arrivals with
    | [] => .turn s
    | a :: later => s.present { s with arrivals := later } a

/-- Put an operation's word where `fetch` looks next, with what its interface needs: a bus word
stands inside a batch of the engine, a command word at the prompt, an event word anywhere, a hook
word on the strobe lines (notes/assumptions/32.md). -/
def State.withPortWord (s : State) : PortWord → State
  | .bus w =>
    { s with
      hook := none
      rebooting := false
      autorunPending := false
      termExec := true
      ctl := match s.insideBatch with
        | some kind => .exec kind (.batch true)
        | none => .exec .run (.batch true)
      arrivals :=
        .access .engine (w.getLsbD 9) (aciaAddr s.cfg.aciaBase (w.getLsbD 8))
          (w.extractLsb' 0 8) :: s.arrivals }
  | .cmd w =>
    { s with
      hook := none
      rebooting := false
      autorunPending := false
      clearPending := false
      termExec := false
      ctl := .idle
      arrivals := .cmd w :: s.arrivals }
  | .evt w => { s with hook := none, arrivals := .evt w :: s.arrivals }
  | .hook w => { s with hook := some w }

end Sys2Proof.Machine
end

