-- ==== Sys2Proof/Machine/Step.lean ====
section
/-! DEFINITION. One step of the machine. -/

namespace Sys2Proof.Machine

/-- One step: the next move of `fetch`, an operation being executed by `exec` (R70). -/
def step (s : State) : Host.Outcome State Fault Refusal :=
  match fetch s with
  | .run i t => exec i t
  | .done t => .next t
  | .turn t => .next t.turn
  | .stop f => .fault f

/-- The state in which the next step fetches and runs the operation with these table bits; a word
of no operation's width changes nothing. -/
def State.withFetchWord (s : State) (nbits w : Nat) : State :=
  match tableWord nbits w with
  | some pw => s.withPortWord pw
  | none => s

end Sys2Proof.Machine
end

