-- ==== Sys2Proof/Safety.lean ====
section
/-! DEFINITION. What holds of every state a run reaches: the invariants the spec states of the block
(spec/10_state.md R23, R24, R26, R29, R38; spec/42_step_break_controller.md R164, R186). -/

namespace Sys2Proof.Machine

/-- What a phase says of the values it carries: only a positive count reaches `THROTTLE` (R144(d)),
a suspension follows a window over the rate (R143), an error code is not positive (R200). -/
def Phase.sound (p : Phase) (rate : Long) (window : Nat) : Prop :=
  match p with
  | .batch _ => True
  | .count _ => True
  | .throttle c => 0 < c.toInt
  | .suspended => rate ≠ 0 ∧ rate.toNat < window
  | .poll err => ∀ code ∈ err, code.toInt ≤ 0
  | .check err => ∀ code ∈ err, code.toInt ≤ 0

/-- A `Step` in progress has a batch to do (R173, R174). -/
def Kind.sound (k : Kind) : Prop :=
  match k with
  | .run => True
  | .runUntil _ => True
  | .step n => n ≠ 0

/-- `ctl` is a legal position. -/
def Ctl.sound (c : Ctl) (rate : Long) (window : Nat) : Prop :=
  match c with
  | .idle => True
  | .exec kind phase => kind.sound ∧ phase.sound rate window

/-- The controller stands in `POLL`. -/
def Ctl.inPoll (c : Ctl) : Bool :=
  match c with
  | .exec _ (.poll _) => true
  | .exec _ _ => false
  | .idle => false

/-- The invariant of the block. -/
structure State.Inv (s : State) : Prop where
  /-- `inCur + inAvail <= RX_CAP` (R24). -/
  inBufFits : s.inCur + s.inBuf.length ≤ rxCap
  /-- `outLen <= TX_CAP - 1` between operations (R26). -/
  outBufFits : s.outBuf.length < txCap
  /-- A pending interrupt was enabled (R29; 95_test_vectors 2.1). -/
  pendingEnabled : s.interruptPending = true → s.interruptEnabled = true
  /-- `termExec` is true exactly in execution mode (R164, R186(d), R215). -/
  termExecLevel : s.termExec = true ↔ s.ctl ≠ .idle
  /-- The automatic `RUN` can only be to come in `IDLE` (R232). -/
  autorunIdle : s.autorunPending = true → s.ctl = .idle
  /-- A reboot sequence stands in `IDLE` until its `RUN` (R180, R165). -/
  rebootIdle : s.rebooting = true → s.ctl = .idle
  /-- A clear stands after an operation only while it runs, and only with `after_dispatch` (R162). -/
  clearLater :
    s.clearPending = true →
      (s.ctl ≠ .idle ∨ s.rebooting = true) ∧ s.cfg.brkClearPoint = .afterDispatch
  /-- `ctl` is a legal position (R36). -/
  ctlSound : s.ctl.sound s.rate s.window
  /-- One strobe stands at a time: POLL only in the POLL phase, RESET only in the reboot sequence
  (R95, R126). -/
  hookPhase : ∀ w ∈ s.hook,
    w = 0b01#2 ∧ s.ctl.inPoll = true ∨ w = 0b10#2 ∧ s.rebooting = true

/-- `n` steps, stopping at the first fault or refusal. -/
def steps : Nat → State → Host.Outcome State Fault Refusal
  | 0, s => .next s
  | n + 1, s =>
    match step s with
    | .next t => steps n t
    | .fault f => .fault f
    | .refused r => .refused r

/-- The bytes an operation gives to `outBuf` (R120). -/
def written (i : Instr) : List Byte :=
  match i with
  | .aciaDw v => [v]
  | _ => []

/-- The bytes an operation takes from `inBuf` (R117). -/
def State.popped (s : State) (i : Instr) : List Byte :=
  match i with
  | .aciaDr _ => s.inBuf.take 1
  | _ => []

/-- The operations of the `BUS` format (R80). -/
def isBus (i : Instr) : Bool :=
  match encode i with
  | .bus _ => true
  | _ => false

/-- The operations of the `CMD` format (R80). -/
def isCommand (i : Instr) : Bool :=
  match encode i with
  | .cmd _ => true
  | _ => false

/-- Two states agree on the ACIA (R22) and on the receive stream it reads. -/
def State.sameAcia (s t : State) : Prop :=
  t.inBuf = s.inBuf ∧ t.inCur = s.inCur ∧ t.outBuf = s.outBuf ∧ t.bufferMode = s.bufferMode ∧
    t.interruptEnabled = s.interruptEnabled ∧ t.interruptPending = s.interruptPending ∧
    t.echoEnabled = s.echoEnabled ∧ t.rx = s.rx

/-- The operation an accepted command begins at once (R163's first row), with its first position;
`none` for a command that begins none, and for `REBOOT`, whose `RUN` comes at the end of its sequence
(R180). -/
def startOf (i : Instr) : Option Ctl :=
  match i with
  | .run _ => some (.exec .run (.batch false))
  | .goAt _ _ => some (.exec .run (.batch false))
  | .runUntil _ target => some (.exec (.runUntil target) (.batch false))
  | .step1 _ => some (.exec (.step 1) (.batch false))
  | .stepN n => if n = 0 then none else some (.exec (.step n) (.batch false))
  | .reboot _ _ => none
  | .setPc _ _ => none
  | .wpSet _ _ => none
  | .ctrRead _ => none
  | .ctrClr => none
  | .cmdUndef _ => none
  | .brk _ _ => none
  | .tick _ _ => none
  | .rebootReq _ _ => none
  | .aciaSr _ => none
  | .aciaCw _ => none
  | .aciaDr _ => none
  | .aciaDw _ => none
  | .aciaPoll => none
  | .aciaReset => none

/-- Whether an event word asks for a reboot in `IDLE` (R179, R180): REBOOT_REQ, or a TICK or BREAK that
finds the engine's request pending. -/
def asksReboot (w : EvtWord) (pending : Bool) : Bool :=
  w.getLsbD 2 || (w.getLsbD 0 || w.getLsbD 1) && pending

/-- A stop condition of `CHECK` holds: an error (R163), a break for `Run` (R167), a break or the target
for `RunUntil` (R170), the last batch for `Step` (R174). -/
def State.stopHolds (s : State) (kind : Kind) (err : Option Long) : Prop :=
  match err, kind with
  | some _, _ => True
  | none, .run => s.breakRequested = true
  | none, .runUntil target => s.breakRequested = true ∨ s.enginePC = target
  | none, .step k => k = 1

/-- The kind of the next iteration (R163's last row). -/
def Kind.next (k : Kind) : Kind :=
  match k with
  | .run => .run
  | .runUntil target => .runUntil target
  | .step n => .step (n - 1)

/-- The rows of R163's table of transitions of `ctl`, each with the condition under which it is taken.
The phase `BATCH` is cut at the call of the engine (notes/assumptions/23.md); `IDLE` to `BATCH` by a
reboot is made when its sequence ends (notes/assumptions/33.md). -/
inductive CtlRow (s t : State) : Prop where
  /-- `IDLE`, a command is accepted that begins an operation. -/
  | command (i : Instr) (u : State) : s.atPrompt = true →
      fetch s = .run i u → startOf i = some t.ctl → t.termExec = true → CtlRow s t
  /-- `IDLE`, the automatic `RUN` of power-on (R232). -/
  | autorun : s.ctl = .idle → s.rebooting = false → s.autorunPending = true →
      t.ctl = .exec .run (.batch false) → t.termExec = true → CtlRow s t
  /-- `IDLE`, the `RUN` of a reboot sequence whose strobe has been served (R180). -/
  | rebooted : s.ctl = .idle → s.rebooting = true → s.hook = none →
      t.ctl = .exec .run (.batch false) → t.termExec = true → t.rebooting = false → CtlRow s t
  /-- `BATCH`, the engine is called. -/
  | call (kind : Kind) : s.ctl = .exec kind (.batch false) → t.ctl = .exec kind (.batch true) →
      CtlRow s t
  /-- `BATCH`, the batch returns `c`. -/
  | returned (kind : Kind) (c : Long) (pc : Addr) (reboot : Bool) :
      s.ctl = .exec kind (.batch true) →
      s.arrivals.head? = some (.batchReturn c pc reboot) → t.ctl = .exec kind (.count c) →
      CtlRow s t
  /-- `COUNT`, `c > 0`. -/
  | counted (kind : Kind) (c : Long) : s.ctl = .exec kind (.count c) → 0 < c.toInt →
      t.ctl = .exec kind (.throttle c) → CtlRow s t
  /-- `COUNT`, `c <= 0`. -/
  | failed (kind : Kind) (c : Long) : s.ctl = .exec kind (.count c) → c.toInt ≤ 0 →
      t.ctl = .exec kind (.poll (some c)) → CtlRow s t
  /-- `THROTTLE`, `R = 0`, or `window <= R` after adding. -/
  | underRate (kind : Kind) (c : Long) : s.ctl = .exec kind (.throttle c) →
      (s.rate = 0 ∨ t.window ≤ s.rate.toNat) → t.ctl = .exec kind (.poll none) → CtlRow s t
  /-- `THROTTLE`, `R != 0` and `window > R` after adding. -/
  | overRate (kind : Kind) (c : Long) : s.ctl = .exec kind (.throttle c) → s.rate ≠ 0 →
      s.rate.toNat < t.window → t.ctl = .exec kind .suspended → CtlRow s t
  /-- `SUSPENDED`, a TICK or BREAK event arrives. -/
  | woken (kind : Kind) (w : EvtWord) : s.ctl = .exec kind .suspended →
      s.arrivals.head? = some (.evt w) → (w.getLsbD 0 = true ∨ w.getLsbD 1 = true) →
      t.ctl = .exec kind (.poll none) → CtlRow s t
  /-- `POLL`, poll done. -/
  | polled (kind : Kind) (err : Option Long) (w : HookWord) : s.ctl = .exec kind (.poll err) →
      s.hook = some w → w.getLsbD 0 = true → t.ctl = .exec kind (.check err) → CtlRow s t
  /-- `CHECK`, a stop condition holds. -/
  | stopped (kind : Kind) (err : Option Long) : s.ctl = .exec kind (.check err) →
      s.stopHolds kind err → t.ctl = .idle → t.termExec = false → CtlRow s t
  /-- `CHECK`, no stop condition holds. -/
  | again (kind : Kind) (err : Option Long) : s.ctl = .exec kind (.check err) →
      ¬s.stopHolds kind err → t.ctl = .exec kind.next (.batch false) → CtlRow s t

/-- What begins a reboot sequence (R179, R180): an accepted `REBOOT`, or in `IDLE` an event word that
asks for a reboot. -/
def State.rebootBegins (s : State) : Prop :=
  (s.atPrompt = true ∧ ∃ hasArg arg u, fetch s = .run (.reboot hasArg arg) u) ∨
  (s.ctl = .idle ∧ ∃ w later, s.arrivals = .evt w :: later ∧ asksReboot w s.rebootRequested = true)

end Sys2Proof.Machine
end

