-- ==== Sys2Proof/Certificates/Slice0/Obligations.lean ====
section
/-! DEFINITION. The statements about the block, for the provers. -/

open Sys2Proof Sys2Proof.Machine

/-! ### Encoding -/

/-- Words of spec/95_test_vectors.md part 3 and of R82, R91, R94, R95, written out there, decode to
the operation named beside them. -/
def Obligations.SpecWordsDecode : Prop :=
  decode (.bus 0x08E#10) = .ok (.aciaCw 0x8E#8) ∧
  decode (.bus 0x141#10) = .ok (.aciaDw 0x41#8) ∧
  decode (.bus 0x2A5#10) = .ok (.aciaSr 0xA5#8) ∧
  decode (.bus 0x3FF#10) = .ok (.aciaDr 0xFF#8) ∧
  decode (.cmd 0x0CF00000100#41) = .ok (.goAt 0 0x0100#16) ∧
  decode (.cmd 0x0CD0000FFFF#41) = .ok (.runUntil 0 0xFFFF#16) ∧
  decode (.cmd 0x0DDFFFFFFFF#41) = .ok (.stepN 4294967295#32) ∧
  decode (.cmd 0x0F300000000#41) = .ok .ctrClr ∧
  decode (.cmd 0x0F300000001#41) = .ok (.cmdUndef 0x0F300000001#41) ∧
  decode (.cmd 0x08E00000000#41) = .ok (.cmdUndef 0x08E00000000#41) ∧
  decode (.evt 0b010#3) = .ok (.tick false false) ∧
  decode (.evt 0b011#3) = .ok (.brk true false) ∧
  decode (.hook 0b01#2) = .ok .aciaPoll ∧
  decode (.hook 0b10#2) = .ok .aciaReset

/-- Decode and encode agree: every well-formed operation, with every operand at every value, is read
back from its word (R82, R91, R94, R95). -/
def Obligations.DecodeOfEncode : Prop :=
  ∀ i : Instr, i.wellFormed = true → decode (encode i) = .ok i

/-- The other direction: whatever a word decodes to, that operation's word is the word, so no bit of
a word is lost (R81, R88, R94, R95). -/
def Obligations.EncodeOfDecode : Prop :=
  ∀ (w : PortWord) (i : Instr), decode w = .ok i → encode i = w

/-- Only three words have no operation: an event word with no line at 1, and a hook word that is not
one-hot (R82, R91, R94, R95). -/
def Obligations.WordsWithoutOperation : Prop :=
  ∀ w : PortWord,
    (∀ i, decode w ≠ .ok i) ↔ w = .evt 0b000#3 ∨ w = .hook 0b00#2 ∨ w = .hook 0b11#2

/-- R82: operation select on `{RnW, A0}` by match and mask, the byte being `D`. -/
def Obligations.BusOperationSelect : Prop :=
  ∀ w : BusWord,
    (w &&& 0x300#10 = 0x200#10 → decode (.bus w) = .ok (.aciaSr (w.extractLsb' 0 8))) ∧
    (w &&& 0x300#10 = 0x000#10 → decode (.bus w) = .ok (.aciaCw (w.extractLsb' 0 8))) ∧
    (w &&& 0x300#10 = 0x300#10 → decode (.bus w) = .ok (.aciaDr (w.extractLsb' 0 8))) ∧
    (w &&& 0x300#10 = 0x100#10 → decode (.bus w) = .ok (.aciaDw (w.extractLsb' 0 8))) ∧
    (w &&& 0x300#10 = 0x200#10 ∨ w &&& 0x300#10 = 0x000#10 ∨ w &&& 0x300#10 = 0x300#10 ∨
      w &&& 0x300#10 = 0x100#10)

/-- R91: the rows are tried top to bottom, a word selects a row when `(w & mask) = match`, and
`CMD_UNDEF` matches what no earlier row matches; with the operand column. -/
def Obligations.CommandRowSelect : Prop :=
  ∀ w : CmdWord,
    (decodeCmd w).mnemonic =
      (match cmdRows.find? fun r => w &&& r.mask == r.pattern with
        | some r => r.mnemonic
        | none => "CMD_UNDEF") ∧
    (∀ hi a, decodeCmd w = .goAt hi a → a = w.extractLsb' 0 16) ∧
    (∀ hi a, decodeCmd w = .runUntil hi a → a = w.extractLsb' 0 16) ∧
    (∀ hi a, decodeCmd w = .setPc hi a → a = w.extractLsb' 0 16) ∧
    (∀ hi a, decodeCmd w = .wpSet hi a → a = w.extractLsb' 0 16) ∧
    (∀ n, decodeCmd w = .stepN n → n = w.extractLsb' 0 32)

/-- The console's operand readers form the words of spec/95_test_vectors.md from the console text
(R88 to R90, R93, R96, R97): `g 100`, `f 120`, `n`, `n 10`, `p 8000`, `w 1234`, `y 0`, `f`, and
`g zz`, whose argument is not hexadecimal; and for `y 5` a word, its non-zero `ARG` left open
(notes/assumptions/35.md), that decodes to `CMD_UNDEF`. The character codes of the text's space, digits and
letters are ASCII, the model's presumption (notes/assumptions/22.md, 30.md). -/
def Obligations.ConsoleLinesFormWords : Prop :=
  lineWord [0x67#8, 0x20#8, 0x31#8, 0x30#8, 0x30#8] = some 0x0CF00000100#41 ∧
  lineWord [0x66#8, 0x20#8, 0x31#8, 0x32#8, 0x30#8] = some 0x0CD00000120#41 ∧
  lineWord [0x6E#8] = some 0x0DC00000000#41 ∧
  lineWord [0x6E#8, 0x20#8, 0x31#8, 0x30#8] = some 0x0DD0000000A#41 ∧
  lineWord [0x70#8, 0x20#8, 0x38#8, 0x30#8, 0x30#8, 0x30#8] = some 0x0E100008000#41 ∧
  lineWord [0x20#8, 0x77#8, 0x20#8, 0x31#8, 0x32#8, 0x33#8, 0x34#8] = some 0x0EF00001234#41 ∧
  lineWord [0x79#8, 0x20#8, 0x30#8] = some 0x0F300000000#41 ∧
  (∃ w, lineWord [0x79#8, 0x20#8, 0x35#8] = some w ∧ decodeCmd w = .cmdUndef w) ∧
  lineWord [0x66#8] = some 0x0CC00000000#41 ∧
  lineWord [0x67#8, 0x20#8, 0x7A#8, 0x7A#8] = some 0x0CE00000000#41

/-! ### Fetch -/

/-- A step runs the decoded operation: a hook strobe, a command word or a console line at the
prompt, an event word, and a byte access of the engine inside a batch or of the console at the
prompt, each taken off its interface, step to `exec` of what they decode to. -/
def Obligations.StepRunsDecodedWord : Prop :=
  (∀ s w i, s.hook = some w → decode (.hook w) = .ok i → step s = exec i (s.hookServed w)) ∧
  (∀ s later w, s.hook = none → s.arrivals = .cmd w :: later → s.ctl = .idle →
    s.rebooting = false → s.autorunPending = false →
    step s = exec (decodeCmd w) { s with arrivals := later }) ∧
  (∀ s later text w, s.hook = none → s.arrivals = .line text :: later → s.ctl = .idle →
    s.rebooting = false → s.autorunPending = false → lineWord text = some w →
    step s = exec (decodeCmd w) { s with arrivals := later }) ∧
  (∀ s later w i, s.hook = none → s.arrivals = .evt w :: later → decode (.evt w) = .ok i →
    step s = exec i { s with arrivals := later }) ∧
  (∀ s later k rnw addr d w, s.hook = none →
    s.arrivals = .access .engine rnw addr d :: later → s.ctl = .exec k (.batch true) →
    busWordAt s.cfg.aciaBase rnw addr d = some w →
    step s = exec (decodeBus w) { s with arrivals := later }) ∧
  (∀ s later rnw addr d w, s.hook = none →
    s.arrivals = .access .console rnw addr d :: later → s.ctl = .idle → s.rebooting = false →
    s.autorunPending = false → s.cfg.debugAccessRouted = true →
    busWordAt s.cfg.aciaBase rnw addr d = some w →
    step s = exec (decodeBus w) { s with arrivals := later })

/-- The word `withFetchWord` places is the one the next step runs, at a state that differs only in
the controller's position and the interface lines (the model's convention, notes/assumptions/32.md). -/
def Obligations.PlacedWordRunsNext : Prop :=
  ∀ (s : State) nbits w i, decodeTableWord nbits w = some i →
    ∃ t : State, step (s.withFetchWord nbits w) = exec i t ∧
      t = { s with
        hook := none
        rebooting := t.rebooting
        ctl := t.ctl
        termExec := t.termExec
        autorunPending := t.autorunPending
        clearPending := t.clearPending }

/-- R62, R63, R94, R95, R96: a move that is no operation of the block. A HOOK word with both strobes
stops the model and one with none is dropped, an EVT word with no line is no event (the model's
choice, notes/assumptions/16.md); the command of a console line past a limit is not presented (U17)
and its iteration only clears the break flag (R162); an access elsewhere, or one of the console that is
not routed, does not reach the block. -/
def Obligations.MovesWithoutOperation : Prop :=
  (∀ s, s.hook = some 0b11#2 → step s = .fault .bothHookStrobes) ∧
  (∀ s, s.hook = some 0b00#2 → step s = .next { s with hook := none }) ∧
  (∀ s later, s.hook = none → s.arrivals = .evt 0b000#3 :: later →
    step s = .next { s with arrivals := later }.turn) ∧
  (∀ s later text, s.hook = none → s.arrivals = .line text :: later → s.ctl = .idle →
    s.rebooting = false → s.autorunPending = false → lineWord text = none →
    step s = .next { s with arrivals := later, breakRequested := false }) ∧
  (∀ s later k rnw addr d, s.hook = none →
    s.arrivals = .access .engine rnw addr d :: later → s.ctl = .exec k (.batch true) →
    busWordAt s.cfg.aciaBase rnw addr d = none → step s = .next { s with arrivals := later }) ∧
  (∀ s later rnw addr d, s.hook = none →
    s.arrivals = .access .console rnw addr d :: later → s.ctl = .idle → s.rebooting = false →
    s.autorunPending = false →
    s.cfg.debugAccessRouted = false ∨ busWordAt s.cfg.aciaBase rnw addr d = none →
    step s = .next { s with arrivals := later })

/-- R62, R81: the block answers `ACIA_BASE` (control/status) and `ACIA_BASE + 1` (data), and no
other address. -/
def Obligations.TwoAddressesOnly : Prop :=
  ∀ base addr rnw d, base.getLsbD 0 = false →
    (addr = base → busWordAt base rnw addr d = some (busWord rnw false d)) ∧
    (addr = base + 1 → busWordAt base rnw addr d = some (busWord rnw true d)) ∧
    (addr ≠ base → addr ≠ base + 1 → busWordAt base rnw addr d = none)

/-! ### Bus operations -/

/-- R111: the byte has `interruptPending` before the clear in bit 7 and "receive data available" in
bit 0; `interruptPending` is cleared and nothing else of the block changes (R112). Bits 6:1 are any
value; `draws` counts the free values drawn. -/
def Obligations.StatusReadResult : Prop :=
  ∀ d s, ∃ b : Byte,
    exec (.aciaSr d) s =
      .next { s with
        interruptPending := false
        draws := s.draws + 1
        outputs := s.outputs ++ [.busResult b] } ∧
    b.getLsbD 7 = s.interruptPending ∧ (b.getLsbD 0 = true ↔ s.inBuf ≠ [])

/-- R114 with R86, R115, R116: the control write for every byte and every parameter under which the
mode field has a meaning: enable, mode and echo, a flush when bit 2 is 1, then `TermApply`. -/
def Obligations.ControlWriteResult : Prop :=
  ∀ v s m,
    (v.extractLsb' 0 2 = 0#2 ∧ m = .line ∨
      v.extractLsb' 0 2 = 1#2 ∧ m = .zeroDelayLine ∨
      v.extractLsb' 0 2 = 2#2 ∧ m = .raw ∨
      v.extractLsb' 0 2 = 3#2 ∧ s.cfg.mode3Policy = .asLine ∧ m = .line ∨
      v.extractLsb' 0 2 = 3#2 ∧ s.cfg.mode3Policy = .asRaw ∧ m = .raw) →
    ∃ e : Bool,
      (s.cfg.echoSemantics = .levelHigh → e = v.getLsbD 3) ∧
      (s.cfg.echoSemantics = .levelLow → e = !v.getLsbD 3) ∧
      (s.cfg.echoSemantics = .toggle → e = (s.echoEnabled ^^ v.getLsbD 3)) ∧
      exec (.aciaCw v) s =
        .next { s with
          interruptEnabled := s.interruptEnabled || v.getLsbD 7
          bufferMode := m
          echoEnabled := e
          outBuf := if v.getLsbD 2 then [] else s.outBuf
          outputs := s.outputs ++ (if v.getLsbD 2 then [.txEmit s.outBuf] else []) ++
            [.termApply m e] }

/-- R116: `MODE = 3` under each policy: no meaning, or exactly the same write with `MODE = 0` or
with `MODE = 2`. -/
def Obligations.ReservedModePolicies : Prop :=
  ∀ v s, v.extractLsb' 0 2 = 3#2 →
    (s.cfg.mode3Policy = .refuse → exec (.aciaCw v) s = .refused .mode3Refused) ∧
    (s.cfg.mode3Policy = .asLine → exec (.aciaCw v) s = exec (.aciaCw (v &&& 0xFC#8)) s) ∧
    (s.cfg.mode3Policy = .asRaw → exec (.aciaCw v) s = exec (.aciaCw (v &&& 0xFE#8)) s)

/-- R84, R115(c): control bits 6:4 are ignored. -/
def Obligations.ReservedControlBitsIgnored : Prop :=
  ∀ v v' s, v &&& 0x8F#8 = v' &&& 0x8F#8 → exec (.aciaCw v) s = exec (.aciaCw v') s

/-- R117, R118, R119: pop and return the next byte, or return 0x00 and change nothing. -/
def Obligations.DataReadResult : Prop :=
  ∀ d s,
    (∀ b rest, s.inBuf = b :: rest →
      exec (.aciaDr d) s =
        .next { s with
          inBuf := rest
          inCur := s.inCur + 1
          outputs := s.outputs ++ [.busResult b] }) ∧
    (s.inBuf = [] →
      exec (.aciaDr d) s = .next { s with outputs := s.outputs ++ [.busResult 0x00#8] })

/-- R120 with R121's table: append, then flush in `Raw`, on a line terminator in the two line modes,
and at capacity. -/
def Obligations.DataWriteResult : Prop :=
  ∀ v s,
    ((s.bufferMode = .raw ∨ v ∈ s.cfg.lineTerm ∨ s.outBuf.length + 1 = txCap) →
      exec (.aciaDw v) s =
        .next { s with
          outBuf := []
          outputs := s.outputs ++ [.txEmit (s.outBuf ++ [v])] }) ∧
    (¬(s.bufferMode = .raw ∨ v ∈ s.cfg.lineTerm ∨ s.outBuf.length + 1 = txCap) →
      exec (.aciaDw v) s = .next { s with outBuf := s.outBuf ++ [v] })

/-! ### Hooks -/

/-- R125, R127: with unread bytes, or with no byte available, nothing; otherwise the bytes of the
read are loaded, at most `RX_CAP` of them, and with interrupts enabled the flag is set and one pulse
is issued. -/
def Obligations.PollResult : Prop :=
  ∀ s,
    (s.inBuf ≠ [] → exec .aciaPoll s = .next s) ∧
    (s.rx = [] → exec .aciaPoll s = .next s) ∧
    (∀ later, s.inBuf = [] → s.rx = [] :: later →
      exec .aciaPoll s = .next { s with rx := later }) ∧
    (∀ l later, s.inBuf = [] → s.rx = l :: later → l ≠ [] →
      exec .aciaPoll s =
        .next { s with
          inBuf := l.take 256
          inCur := 0
          rx := if l.length ≤ 256 then later else l.drop 256 :: later
          interruptPending := s.interruptPending || s.interruptEnabled
          outputs := s.outputs ++ if s.interruptEnabled then [.irqPulse] else [] })

/-- R128: all buffers and flags cleared, interrupts off, nothing emitted, no `TermApply`. -/
def Obligations.ResetHookResult : Prop :=
  ∀ s, exec .aciaReset s =
    .next { s with
      inBuf := []
      inCur := 0
      outBuf := []
      bufferMode := .line
      interruptEnabled := false
      interruptPending := false
      echoEnabled := false }

/-! ### Commands, in `IDLE` (R162), with no reboot sequence on its way to its `RUN` -/

/-- R165, R166, R169: `RUN`, `GO_AT` and `RUN_UNTIL` begin an execution operation, `GO_AT` with the
engine's PC set; the command-loop clear of R162 stands before it or is left for its exit. That they
use up the automatic `RUN`, and that the clear of `after_dispatch` is left to the exit, are the
model's (notes/assumptions/6.md, 19.md). -/
def Obligations.RunCommandsStart : Prop :=
  ∀ s, s.ctl = .idle → s.rebooting = false →
    let begun (k : Kind) (pc : Addr) : State :=
      { s with
        breakRequested := s.breakRequested && decide (s.cfg.brkClearPoint = .afterDispatch)
        clearPending := s.clearPending || decide (s.cfg.brkClearPoint = .afterDispatch)
        termExec := true
        ctl := .exec k (.batch false)
        autorunPending := false
        enginePC := pc }
    (∀ arg, exec (.run arg) s = .next (begun .run s.enginePC)) ∧
    (∀ hi addr, exec (.goAt hi addr) s = .next (begun .run addr)) ∧
    (∀ hi t, exec (.runUntil hi t) s = .next (begun (.runUntil t) s.enginePC))

/-- R173, R175(a): `STEP n` begins an operation of `n` batches, `STEP1` one of one batch, and
`STEP 0` changes nothing but the clear of R162. That they use up the automatic `RUN`, and that the
clear of `after_dispatch` is left to the exit, are the model's (notes/assumptions/6.md, 19.md). -/
def Obligations.StepCommandsStart : Prop :=
  ∀ s, s.ctl = .idle → s.rebooting = false →
    let begun (n : Long) : State :=
      { s with
        breakRequested := s.breakRequested && decide (s.cfg.brkClearPoint = .afterDispatch)
        clearPending := s.clearPending || decide (s.cfg.brkClearPoint = .afterDispatch)
        termExec := true
        ctl := .exec (.step n) (.batch false)
        autorunPending := false }
    (∀ n, n ≠ 0 → exec (.stepN n) s = .next (begun n)) ∧
    (∀ arg, exec (.step1 arg) s = .next (begun 1)) ∧
    exec (.stepN 0) s = .next { s with breakRequested := false }

/-- R181 with R162: the engine's PC is set, `ctl` stays `IDLE`, no batch, no poll. -/
def Obligations.SetPcResult : Prop :=
  ∀ s hi addr, s.ctl = .idle → s.rebooting = false →
    exec (.setPc hi addr) s = .next { s with enginePC := addr, breakRequested := false }

/-- R182 with R162: the watchpoint is set and nothing else but the clear of R162 happens. -/
def Obligations.WatchpointSetResult : Prop :=
  ∀ s hi addr, s.ctl = .idle → s.rebooting = false →
    exec (.wpSet hi addr) s = .next { s with watchpoint := some addr, breakRequested := false }

/-- R150 with R162: the pair (CycleCounter, R) is given; no state changes but the clear. -/
def Obligations.CounterReadResult : Prop :=
  ∀ s arg, s.ctl = .idle → s.rebooting = false →
    exec (.ctrRead arg) s =
      .next { s with
        outputs := s.outputs ++ [.counters s.cycleCounter s.rate]
        breakRequested := false }

/-- R151 with R162: the counter is zero; `window`, `tickFlag` and `R` are not written. -/
def Obligations.CounterClearResult : Prop :=
  ∀ s, s.ctl = .idle → s.rebooting = false →
    exec .ctrClr s = .next { s with cycleCounter := 0, breakRequested := false }

/-- R185: nothing beyond the clear of `breakRequested`. -/
def Obligations.UndefinedCommandResult : Prop :=
  ∀ s w, s.ctl = .idle → s.rebooting = false → exec (.cmdUndef w) s = .next { s with breakRequested := false }

/-- R180, R231: `REBOOT` as a command begins the reboot sequence by strobing `ACIA_RESET` (R95), in
`IDLE` with `termExec` as it is, and two more steps with no other agent moving complete it: the ACIA and
the engine are reset, the two flags cleared, and then a `RUN` begins, which alone leaves `IDLE` (R165);
the counters, `window`, `tickFlag`, `watchpoint` and `R` are unchanged, and nothing waiting in `outBuf`
is sent. The engine's PC after its reset is any value. That the sequence is three steps, that it uses up the automatic `RUN`, and that the clear of `after_dispatch` is left to
the exit, are the model's (notes/assumptions/33.md, 6.md, 19.md). -/
def Obligations.RebootCommandResult : Prop :=
  ∀ s hasArg arg, s.ctl = .idle → s.rebooting = false →
    let begun : State :=
      { s with
        hook := some 0b10#2
        rebooting := true
        breakRequested := s.breakRequested && decide (s.cfg.brkClearPoint = .afterDispatch)
        clearPending := s.clearPending || decide (s.cfg.brkClearPoint = .afterDispatch) }
    exec (.reboot hasArg arg) s = .next begun ∧
    (s.arrivals = [] → ∃ pc : Addr,
      steps 2 begun =
        .next { s with
          inBuf := []
          inCur := 0
          outBuf := []
          bufferMode := .line
          interruptEnabled := false
          interruptPending := false
          echoEnabled := false
          enginePC := pc
          draws := s.draws + 1
          outputs := s.outputs ++ [.engineReset]
          rebootRequested := false
          breakRequested := false
          clearPending := s.clearPending || decide (s.cfg.brkClearPoint = .afterDispatch)
          termExec := true
          ctl := .exec .run (.batch false)
          hook := none
          autorunPending := false })

/-- R162: whatever the command, the iteration makes its one clear: with `before_dispatch` it is made
before the command, the flag is false and no clear is left; with `after_dispatch` it is made after a
command that is over, and for one that has begun an operation or a reboot sequence the flag stands as it
was and exactly one clear is left, for its exit (the model's reading, notes/assumptions/19.md). A line whose command is not
presented (U17) makes the clear too. -/
def Obligations.CommandLoopClearsBreak : Prop :=
  (∀ s t i, isCommand i = true → s.ctl = .idle → s.rebooting = false → exec i s = .next t →
    (s.cfg.brkClearPoint = .beforeDispatch →
      t.breakRequested = false ∧ t.clearPending = s.clearPending) ∧
    (s.cfg.brkClearPoint = .afterDispatch →
      t.inCommandLoop = true ∧ t.breakRequested = false ∧ t.clearPending = s.clearPending ∨
      t.inCommandLoop = false ∧ t.breakRequested = s.breakRequested ∧ t.clearPending = true)) ∧
  (∀ s t text later, s.hook = none → s.arrivals = .line text :: later → s.ctl = .idle →
    s.rebooting = false → s.autorunPending = false → lineWord text = none → step s = .next t →
    t.breakRequested = false ∧ t.clearPending = s.clearPending)

/-- R162, D33: during an execution operation, and during the sequence of a reboot, no command is
accepted. That one presented all the same leaves the state alone, and that a command word or a console
line waits on the interface while the controller goes on, is the model's choice
(notes/assumptions/18.md). -/
def Obligations.CommandsWaitDuringExecution : Prop :=
  (∀ s i, isCommand i = true → s.ctl ≠ .idle ∨ s.rebooting = true → exec i s = .next s) ∧
  (∀ s a later, s.hook = none → s.arrivals = a :: later → s.ctl ≠ .idle ∨ s.rebooting = true →
    ((∃ w, a = .cmd w) ∨ ∃ text, a = .line text) →
    step s = .next s.turn ∧ s.turn.arrivals = a :: later)

/-! ### Events -/

/-- R147, R183, R215: an event word, under any of its rows, sets the flags of its lines and nothing
else when the controller is neither in `IDLE` nor suspended; REBOOT_REQ then has no effect. -/
def Obligations.EventsDuringExecution : Prop :=
  ∀ s i b t r k p,
    (i = .brk t r ∧ b = true ∨ i = .tick b r ∧ t = true ∨ i = .rebootReq b t ∧ r = true) →
    s.ctl = .exec k p → p ≠ .suspended →
    exec i s =
      .next { s with breakRequested := s.breakRequested || b, tickFlag := s.tickFlag || t }

/-- R145, R146, R148, R212: in `SUSPENDED` a TICK or BREAK ends the wait; `window` goes to zero when
the tick has fired, now or before, and the tick is then used up. That REBOOT_REQ alone does nothing is
the model's reading (notes/assumptions/17.md). -/
def Obligations.EventsEndSuspension : Prop :=
  ∀ s i b t r k,
    (i = .brk t r ∧ b = true ∨ i = .tick b r ∧ t = true ∨ i = .rebootReq b t ∧ r = true) →
    s.ctl = .exec k .suspended →
    exec i s =
      .next (if b || t then
        { s with
          breakRequested := s.breakRequested || b
          window := if s.tickFlag || t then 0 else s.window
          tickFlag := false
          ctl := .exec k (.poll none) }
      else s)

/-- R11, R179, R180, R215: in `IDLE` an event word sets its flags; a REBOOT_REQ, or a TICK or BREAK that
finds `rebootRequested` set, starts the reboot sequence, still in `IDLE`, which two more steps with no
other agent moving complete; inside such a sequence it only sets its flags. The model's: that the reboot
starts in the event's own step (notes/assumptions/17.md), that it uses up the automatic `RUN` (6.md),
that it makes no command-loop clear (31.md), that the sequence is three steps, and that a REBOOT_REQ
inside it does nothing more (33.md). -/
def Obligations.EventsInCommandMode : Prop :=
  ∀ s i b t r,
    (i = .brk t r ∧ b = true ∨ i = .tick b r ∧ t = true ∨ i = .rebootReq b t ∧ r = true) →
    s.ctl = .idle →
    ((r = false ∧ s.rebootRequested = false ∨ s.rebooting = true) →
      exec i s =
        .next { s with breakRequested := s.breakRequested || b, tickFlag := s.tickFlag || t }) ∧
    ((r = true ∨ s.rebootRequested = true) → s.rebooting = false →
      let begun : State :=
        { s with
          hook := some 0b10#2
          rebooting := true
          breakRequested := s.breakRequested || b
          tickFlag := s.tickFlag || t }
      exec i s = .next begun ∧
      (s.arrivals = [] → ∃ pc : Addr, steps 2 begun =
        .next { s with
          inBuf := []
          inCur := 0
          outBuf := []
          bufferMode := .line
          interruptEnabled := false
          interruptPending := false
          echoEnabled := false
          tickFlag := s.tickFlag || t
          enginePC := pc
          draws := s.draws + 1
          outputs := s.outputs ++ [.engineReset]
          rebootRequested := false
          breakRequested := false
          rebooting := false
          termExec := true
          ctl := .exec .run (.batch false)
          hook := none
          autorunPending := false }))

/-! ### The controller -/

/-- R141: `COUNT` is a signed test; a positive count is added, any other is the error code. -/
def Obligations.CountPhaseResult : Prop :=
  ∀ s u k c, fetch s = .turn u → u.ctl = .exec k (.count c) →
    (0 < c.toInt →
      step s = .next { u with
        cycleCounter := u.cycleCounter + c.toInt.toNat
        ctl := .exec k (.throttle c) }) ∧
    (c.toInt ≤ 0 → step s = .next { u with ctl := .exec k (.poll (some c)) })

/-- R143, R144: `THROTTLE`: with `R = 0` nothing; otherwise the count goes into `window`, and only a
window strictly over the rate suspends. -/
def Obligations.ThrottlePhaseResult : Prop :=
  ∀ s u k c, fetch s = .turn u → u.ctl = .exec k (.throttle c) →
    (u.rate = 0 → step s = .next { u with ctl := .exec k (.poll none) }) ∧
    (u.rate ≠ 0 → u.window + c.toNat ≤ u.rate.toNat →
      step s = .next { u with
        window := u.window + c.toNat
        ctl := .exec k (.poll none) }) ∧
    (u.rate ≠ 0 → u.rate.toNat < u.window + c.toNat →
      step s = .next { u with
        window := u.window + c.toNat
        ctl := .exec k .suspended })

/-- R145, R246: only a TICK or a BREAK takes the controller out of `SUSPENDED`; any other step leaves
it there. -/
def Obligations.SuspensionNeedsEvent : Prop :=
  ∀ s t k, s.hook = none → s.ctl = .exec k .suspended → step s = .next t →
    t.ctl = .exec k .suspended ∨
    ∃ w later, s.arrivals = .evt w :: later ∧ (w.getLsbD 0 = true ∨ w.getLsbD 1 = true)

/-- R163, R174, R171(a): the call of the engine. A `Step` forces `breakRequested`; the batch is asked
to be one instruction when the flag is then true, or for a `RunUntil` with `RUNUNTIL_BATCH =
single`, which writes no flag. -/
def Obligations.BatchCallResult : Prop :=
  ∀ s u k, fetch s = .turn u → u.ctl = .exec k (.batch false) →
    let call (brk single : Bool) : Host.Outcome State Fault Refusal :=
      .next { u with
        breakRequested := brk
        ctl := .exec k (.batch true)
        outputs := u.outputs ++ [.engineBatch single] }
    (∀ n, k = .step n → step s = call true true) ∧
    (k = .run → step s = call u.breakRequested u.breakRequested) ∧
    (∀ a, k = .runUntil a →
      step s = call u.breakRequested
        (u.breakRequested || decide (u.cfg.runUntilBatch = .single)))

/-- R161, R163: when the batch returns, the PC is where the engine left it, a reboot request it set is
kept, and the count goes to `COUNT`. That a return waits while no batch is in progress is the model's
choice (notes/assumptions/10.md). -/
def Obligations.BatchReturnResult : Prop :=
  ∀ s later c pc rb, s.hook = none → s.arrivals = .batchReturn c pc rb :: later →
    (∀ k, s.ctl = .exec k (.batch true) →
      step s = .next { s with
        arrivals := later
        enginePC := pc
        rebootRequested := s.rebootRequested || rb
        ctl := .exec k (.count c) }) ∧
    ((∀ k, s.ctl ≠ .exec k (.batch true)) → step s = .next s.turn)

/-- R167, R170, R174, R213: `CHECK` with no error: a `Run` stops on the break flag, a `RunUntil` on
the flag and then on the PC, a `Step` after its last batch. Exit restores command mode, reports the
result, and does the clear an `after_dispatch` iteration has left (R163, R164, R162). -/
def Obligations.CheckPhaseResult : Prop :=
  ∀ s u k, fetch s = .turn u → u.ctl = .exec k (.check none) →
    let exit (r : RunResult) : Host.Outcome State Fault Refusal :=
      .next { u with
        termExec := false
        ctl := .idle
        outputs := u.outputs ++ [.result r]
        breakRequested := u.breakRequested && !u.clearPending
        clearPending := false }
    let again (k' : Kind) : Host.Outcome State Fault Refusal :=
      .next { u with ctl := .exec k' (.batch false) }
    (k = .run → step s = if u.breakRequested then exit .brk else again .run) ∧
    (∀ a, k = .runUntil a → step s =
      if u.breakRequested then exit .brk
      else if u.enginePC = a then exit .target else again (.runUntil a)) ∧
    (∀ n, k = .step n → step s = if n = 1 then exit .brk else again (.step (n - 1)))

/-- R205: taking the engine run-time error at `CHECK`: the flag is set (and, in an `after_dispatch`
iteration, cleared by that iteration's end, R162), command mode is back, the code is reported, and
nothing else changes. -/
def Obligations.EngineErrorEntry : Prop :=
  ∀ s u k code, fetch s = .turn u → u.ctl = .exec k (.check (some code)) →
    step s =
      .next { u with
        breakRequested := !u.clearPending
        termExec := false
        ctl := .idle
        outputs := u.outputs ++ [.result (.engineError code)]
        clearPending := false }

/-- R163, R200, R205: from a batch that returned `c <= 0`, with no other agent moving, four steps
bring the block to command mode: the poll still runs and leaves the whole ACIA, the counters and the PC
stay, and the error is reported last. The number of steps is the model's (notes/assumptions/23.md, 24.md); the flag is set, but
for the clear that R162 leaves to the exit of an `after_dispatch` iteration (19.md). -/
def Obligations.ErroringBatchStops : Prop :=
  ∀ s k c, s.hook = none → s.arrivals = [] → s.ctl = .exec k (.count c) → c.toInt ≤ 0 →
    ∃ t, steps 4 s = .next t ∧ t.ctl = .idle ∧ t.termExec = false ∧
      t.breakRequested = !s.clearPending ∧ t.cycleCounter = s.cycleCounter ∧
      t.window = s.window ∧ t.enginePC = s.enginePC ∧
      s.pollAcia.sameAcia t ∧
      t.outputs = s.pollAcia.outputs ++ [.result (.engineError c)]

/-- R173, R174, R186: a `STEP n` whose batches all return positive counts, unthrottled and with no
other agent moving, executes exactly `n` batches, each asked to be one instruction, adds up the counts,
and ends with `Break`. Seven steps per batch are the model's (notes/assumptions/23.md, 24.md); the flag
is set at the end, but for the clear that R162 leaves to the exit of an `after_dispatch` iteration
(19.md). -/
def Obligations.StepRunsExactlyCountBatches : Prop :=
  ∀ (n : Long) (s : State) (rets : List (Long × Addr × Bool)),
    n ≠ 0 → rets.length = n.toNat → (∀ x ∈ rets, 0 < x.1.toInt) →
    s.ctl = .exec (.step n) (.batch false) → s.hook = none → s.rate = 0 →
    s.arrivals = rets.map (fun x => .batchReturn x.1 x.2.1 x.2.2) →
    ∃ t, steps (7 * n.toNat) s = .next t ∧
      t.ctl = .idle ∧ t.termExec = false ∧ t.arrivals = [] ∧
      t.cycleCounter = s.cycleCounter + (rets.map fun x => x.1.toNat).sum ∧
      t.outputs.count (.engineBatch true) = s.outputs.count (.engineBatch true) + n.toNat ∧
      t.outputs.getLast? = some (.result .brk) ∧
      t.breakRequested = !s.clearPending

/-- R163's table: a step leaves `ctl` alone or makes one of the table's transitions, each under its
condition: an accepted command, the automatic `RUN` or the `RUN` of a reboot sequence at `IDLE` (R180,
R232), and at `CHECK` the stop conditions of R167, R170, R174, R213. A reboot sequence begins only with
an accepted `REBOOT` or an event word that asks for one (R179, R180). The table's `BATCH` is cut at the
call of the engine, and its `IDLE` to `BATCH` by a reboot is made at the end of the sequence
(notes/assumptions/23.md, 33.md). -/
def Obligations.ControllerFollowsTable : Prop :=
  ∀ s t, step s = .next t →
    (t.ctl = s.ctl ∨ CtlRow s t) ∧
    (t.rebooting = true → s.rebooting = true ∨ s.rebootBegins)

/-! ### Whole-machine rules -/

/-- R230, R45, R232: what power-on leaves, for every choice of the startup parameters; the parameters
that R5 leaves open and R, AUTORUN are choices, so nothing here rests on a value of theirs. The ACIA is
as `ACIA_RESET` leaves it: one more changes nothing. -/
def Obligations.PowerOnState : Prop :=
  ∀ p r a,
    let s := State.powerOn p r a
    s.inBuf = [] ∧ s.inCur = 0 ∧ s.outBuf = [] ∧ s.bufferMode = .line ∧
    s.interruptEnabled = false ∧ s.interruptPending = false ∧ s.echoEnabled = false ∧
    s.termApplied = none ∧ s.tx = [] ∧ s.pulses = 0 ∧
    s.cycleCounter = 0 ∧ s.window = 0 ∧ s.tickFlag = false ∧ s.breakRequested = false ∧
    s.ctl = .idle ∧ s.watchpoint = none ∧ s.termExec = false ∧ s.rate = r ∧ s.cfg = p ∧
    exec .aciaReset s = .next s ∧
    (a = true → step s = .next (s.startExec .run)) ∧ (a = false → step s = .next s)

/-- The invariant of the block holds after power-on, whatever the startup parameters. -/
def Obligations.InvAfterPowerOn : Prop :=
  ∀ p r a, (State.powerOn p r a).Inv

/-- Every step keeps the invariant of the block (R24, R26, R29, R36, R130(a), R143, R162, R164,
R186(d), R200). -/
def Obligations.StepKeepsInv : Prop :=
  ∀ s t, s.Inv → step s = .next t → t.Inv

/-- R32, R220: no step writes the rate or a parameter. -/
def Obligations.ParametersNeverWritten : Prop :=
  ∀ s t, step s = .next t → t.cfg = s.cfg ∧ t.rate = s.rate

/-- R31, R151: the counter never decreases but by `CTR_CLR`. -/
def Obligations.CycleCounterMonotone : Prop :=
  ∀ s t, step s = .next t →
    s.cycleCounter ≤ t.cycleCounter ∨ (t.cycleCounter = 0 ∧ ∃ u, fetch s = .run .ctrClr u)

/-- R28, R113(a), R242: nothing clears the interrupt enable but the operation `ACIA_RESET`, of all
operations and of all steps. -/
def Obligations.InterruptEnableSticky : Prop :=
  (∀ i s t, exec i s = .next t → s.interruptEnabled = true →
    t.interruptEnabled = true ∨ i = .aciaReset) ∧
  (∀ s t, step s = .next t → s.interruptEnabled = true →
    t.interruptEnabled = true ∨ ∃ u, fetch s = .run .aciaReset u)

/-- R112(e): nothing but a status read or `ACIA_RESET` clears the pending flag, of all operations and of
all steps. -/
def Obligations.PendingClearedByStatusReadOrReset : Prop :=
  (∀ i s t, exec i s = .next t → s.interruptPending = true →
    t.interruptPending = true ∨ (∃ d, i = .aciaSr d) ∨ i = .aciaReset) ∧
  (∀ s t, step s = .next t → s.interruptPending = true →
    t.interruptPending = true ∨ (∃ d u, fetch s = .run (.aciaSr d) u) ∨
      ∃ u, fetch s = .run .aciaReset u)

/-- R125, R130(d), R208, R209: a step issues one pulse exactly when it loads a receive batch with
interrupts enabled, and none otherwise. -/
def Obligations.OnePulsePerLoadedBatch : Prop :=
  ∀ s t, step s = .next t →
    t.pulses = s.pulses + (if s.inBuf = [] ∧ t.inBuf ≠ [] ∧ s.interruptEnabled then 1 else 0)

/-- R72, R126: in a state of the block, receive bytes are loaded and the pending flag is raised only
in the controller's POLL phase, never inside a batch nor in command mode. -/
def Obligations.ReceiveOnlyBetweenBatches : Prop :=
  ∀ s t, s.Inv → step s = .next t →
    (s.inBuf = [] ∧ t.inBuf ≠ [] ∨ s.interruptPending = false ∧ t.interruptPending = true) →
    ∃ k err, s.ctl = .exec k (.poll err) ∧ t.ctl = .exec k (.check err)

/-- R73, R130(c): the transmit stream followed by the bytes waiting grows by exactly the bytes given
to data writes, unless `ACIA_RESET` discards the waiting ones; a step that runs no operation touches
neither. -/
def Obligations.TransmitKeepsOrder : Prop :=
  (∀ i s t, exec i s = .next t →
    t.tx ++ t.outBuf = s.tx ++ s.outBuf ++ written i ∨
    (i = .aciaReset ∧ t.tx = s.tx ∧ t.outBuf = [])) ∧
  (∀ s t, step s = .next t → (∀ i u, fetch s ≠ .run i u) → t.tx = s.tx ∧ t.outBuf = s.outBuf)

/-- R24, R42, R118, R130(b): the unread bytes followed by the receive stream lose exactly the byte a
data read pops, from the head; `ACIA_RESET` loses the unread bytes only. A step that runs no operation
leaves the unread bytes; it leaves the stream too, or the host adds to its end, or the console's line
reader takes its first read. R42 and R126 leave open how many bytes the line reader takes, and when: that
it takes one whole read, only by `consoleRead` at the prompt, and that a line takes nothing, is the
model's choice (notes/assumptions/34.md), as is the stream's being a list of reads (11.md). -/
def Obligations.ReceiveKeepsOrder : Prop :=
  (∀ i s t, exec i s = .next t →
    s.popped i ++ (t.inBuf ++ t.rx.flatten) = s.inBuf ++ s.rx.flatten ∨
    (i = .aciaReset ∧ t.inBuf = [] ∧ t.rx = s.rx)) ∧
  (∀ s t, step s = .next t → (∀ i u, fetch s ≠ .run i u) →
    t.inBuf = s.inBuf ∧
    (t.rx = s.rx ∨
      (∃ l later, s.arrivals = .rx l :: later ∧ t.rx = s.rx ++ [l]) ∨
      ∃ later, s.arrivals = .consoleRead :: later ∧ s.atPrompt = true ∧ t.rx = s.rx.drop 1))

/-- R42, R70: what has been given to the host and the engine stays given. -/
def Obligations.OutputsOnlyGrow : Prop :=
  ∀ s t, step s = .next t → s.outputs <+: t.outputs

/-- R39, R182: nothing reads the watchpoint: two states that differ only in it step alike, and to
states that differ at most in it. -/
def Obligations.WatchpointIsNeverRead : Prop :=
  ∀ s w,
    (∀ t, step s = .next t → ∃ w', step { s with watchpoint := w } = .next { t with watchpoint := w' }) ∧
    (∀ f, step s = .fault f → step { s with watchpoint := w } = .fault f) ∧
    (∀ r, step s = .refused r → step { s with watchpoint := w } = .refused r)

/-- R61, R69, R140: a bus operation reads nothing of the timer and the controller: whatever they
hold, it does the same to the ACIA, and gives the same outputs. -/
def Obligations.BusIgnoresTimerAndController : Prop :=
  ∀ i s s' t, isBus i = true → s.sameAcia s' → s'.cfg = s.cfg → s'.draws = s.draws →
    s'.outputs = s.outputs → exec i s = .next t →
    ∃ t', exec i s' = .next t' ∧ t.sameAcia t' ∧ t'.outputs = t.outputs

/-- R61, R72: a bus operation writes nothing but the ACIA and the outputs. -/
def Obligations.BusLeavesTimerAndController : Prop :=
  ∀ i s t, isBus i = true → exec i s = .next t →
    t = { s with
      inBuf := t.inBuf
      inCur := t.inCur
      outBuf := t.outBuf
      bufferMode := t.bufferMode
      interruptEnabled := t.interruptEnabled
      interruptPending := t.interruptPending
      echoEnabled := t.echoEnabled
      outputs := t.outputs
      draws := t.draws }

/-! ### The strobes of the controller -/

/-- R126, R163 ("always"): in `POLL` the turn strobes `ACIA_POLL`, whatever the error; the strobe is
served next, before any other move, leaving the ACIA as the poll does and the controller at `CHECK`.
The two steps are the model's (notes/assumptions/24.md). -/
def Obligations.PollPhaseResult : Prop :=
  (∀ s u k err, fetch s = .turn u → u.ctl = .exec k (.poll err) →
    step s = .next { u with hook := some 0b01#2 }) ∧
  (∀ s k err, s.hook = some 0b01#2 → s.ctl = .exec k (.poll err) →
    exec .aciaPoll s = .next s.pollAcia ∧
    step s = .next { s.pollAcia with hook := none, ctl := .exec k (.check err) })

/-- R11, R95, R128, R180: in the reboot sequence the strobe of `ACIA_RESET` is served; after it an event
word that arrives is set at once, so that a BREAK is set before the sequence clears it; and the
controller's turn resets the engine, clears the two flags and begins the `RUN`. Only then does `ctl`
leave `IDLE` and `termExec` rise (R165). The cut of the sequence, and that a REBOOT_REQ inside it does
nothing more, are the model's (notes/assumptions/33.md). -/
def Obligations.RebootPhaseResult : Prop :=
  (∀ s, s.hook = some 0b10#2 → s.ctl = .idle →
    step s = .next { s with
      inBuf := []
      inCur := 0
      outBuf := []
      bufferMode := .line
      interruptEnabled := false
      interruptPending := false
      echoEnabled := false
      hook := none }) ∧
  (∀ s w later, s.hook = none → s.ctl = .idle → s.rebooting = true →
    s.arrivals = .evt w :: later → w ≠ 0b000#3 →
    step s = .next { s with
      breakRequested := s.breakRequested || w.getLsbD 0
      tickFlag := s.tickFlag || w.getLsbD 1
      arrivals := later }) ∧
  (∀ s u, fetch s = .turn u → u.ctl = .idle → u.rebooting = true → ∃ pc : Addr,
    step s = .next { u with
      enginePC := pc
      draws := u.draws + 1
      outputs := u.outputs ++ [.engineReset]
      rebootRequested := false
      breakRequested := false
      rebooting := false
      termExec := true
      ctl := .exec .run (.batch false)
      autorunPending := false })

/-- R35, R162, R180: nothing takes a set break flag away but an iteration of the command loop (a command
word or a line at the prompt, or the exit that an `after_dispatch` iteration has left its clear to,
notes/assumptions/19.md) and the reboot sequence. -/
def Obligations.BreakClearedOnlyByIterationOrReboot : Prop :=
  ∀ s t, step s = .next t → s.breakRequested = true →
    t.breakRequested = true ∨
    (s.hook = none ∧ s.atPrompt = true ∧ ∃ a later, s.arrivals = a :: later ∧
      ((∃ w, a = .cmd w) ∨ ∃ text, a = .line text)) ∨
    (s.clearPending = true ∧ t.ctl = .idle ∧ t.clearPending = false) ∨
    (s.ctl = .idle ∧ s.rebooting = true ∧ t.ctl = .exec .run (.batch false))
end

