-- ==== Sys2Proof/Laws/Decode.lean ====
section
/-! SUPPORT. The fields of the words the encoder builds, and the words rebuilt from their fields. -/

namespace Sys2Proof

theorem cmdVerb_cmdWord (v : Byte) (h : Bool) (a : Long) : cmdVerb (cmdWord v h a) = v := by
  ext i hi
  simp [cmdVerb, cmdWord]
  grind

theorem cmdHasArg_cmdWord (v : Byte) (h : Bool) (a : Long) : cmdHasArg (cmdWord v h a) = h := by
  unfold cmdHasArg cmdWord
  grind

theorem cmdArg_cmdWord (v : Byte) (h : Bool) (a : Long) : cmdArg (cmdWord v h a) = a := by
  ext i hi
  simp [cmdArg, cmdWord]
  grind

theorem cmdWord_fields (w : CmdWord) : cmdWord (cmdVerb w) (cmdHasArg w) (cmdArg w) = w := by
  ext i hi
  simp [cmdVerb, cmdHasArg, cmdArg, cmdWord]
  grind

theorem argLow_append (hi lo : BitVec 16) : argLow (hi ++ lo) = lo := by
  ext i h
  simp [argLow]
  grind

theorem argHigh_append (hi lo : BitVec 16) : argHigh (hi ++ lo) = hi := by
  ext i h
  simp [argHigh]
  grind

theorem arg_halves (a : Long) : argHigh a ++ argLow a = a := by
  ext i h
  simp [argLow, argHigh]
  grind

theorem busWord_rnw (r a : Bool) (d : Byte) : (busWord r a d).getLsbD 9 = r := by
  unfold busWord
  grind

theorem busWord_a0 (r a : Bool) (d : Byte) : (busWord r a d).getLsbD 8 = a := by
  unfold busWord
  grind

theorem busWord_data (r a : Bool) (d : Byte) : (busWord r a d).extractLsb' 0 8 = d := by
  ext i h
  simp [busWord]
  grind

theorem busWord_fields (w : BusWord) :
    busWord (w.getLsbD 9) (w.getLsbD 8) (w.extractLsb' 0 8) = w := by
  ext i h
  simp [busWord]
  grind

/-- `and` acts field by field. -/
theorem cmdWord_and (v v' : Byte) (h h' : Bool) (a a' : Long) :
    cmdWord v h a &&& cmdWord v' h' a' = cmdWord (v &&& v') (h && h') (a &&& a') := by
  ext i hi
  simp [cmdWord]
  grind

theorem busWord_and (r r' a a' : Bool) (d d' : Byte) :
    busWord r a d &&& busWord r' a' d' = busWord (r && r') (a && a') (d &&& d') := by
  ext i hi
  simp [busWord]
  grind

/-- Two `CMD` words are equal exactly when their fields are. -/
theorem cmdWord_inj {v v' : Byte} {h h' : Bool} {a a' : Long} :
    cmdWord v h a = cmdWord v' h' a' ↔ v = v' ∧ h = h' ∧ a = a' := by
  constructor
  · intro e
    have hv := congrArg cmdVerb e
    have hh := congrArg cmdHasArg e
    have ha := congrArg cmdArg e
    simp only [cmdVerb_cmdWord, cmdHasArg_cmdWord, cmdArg_cmdWord] at hv hh ha
    exact ⟨hv, hh, ha⟩
  · rintro ⟨rfl, rfl, rfl⟩
    rfl

end Sys2Proof
end

