-- ==== Sys2Proof/Laws/State.lean ====
section
/-! SUPPORT. What each named update of the state does to each field; all hold by unfolding. -/

namespace Sys2Proof.Machine

variable (s : State)

/-! ### Append an output -/

@[simp] theorem State.emit_cfg (o : Output) :
    (s.emit o).cfg = s.cfg := rfl
@[simp] theorem State.emit_inBuf (o : Output) :
    (s.emit o).inBuf = s.inBuf := rfl
@[simp] theorem State.emit_inCur (o : Output) :
    (s.emit o).inCur = s.inCur := rfl
@[simp] theorem State.emit_outBuf (o : Output) :
    (s.emit o).outBuf = s.outBuf := rfl
@[simp] theorem State.emit_bufferMode (o : Output) :
    (s.emit o).bufferMode = s.bufferMode := rfl
@[simp] theorem State.emit_interruptEnabled (o : Output) :
    (s.emit o).interruptEnabled = s.interruptEnabled := rfl
@[simp] theorem State.emit_interruptPending (o : Output) :
    (s.emit o).interruptPending = s.interruptPending := rfl
@[simp] theorem State.emit_echoEnabled (o : Output) :
    (s.emit o).echoEnabled = s.echoEnabled := rfl
@[simp] theorem State.emit_cycleCounter (o : Output) :
    (s.emit o).cycleCounter = s.cycleCounter := rfl
@[simp] theorem State.emit_rate (o : Output) :
    (s.emit o).rate = s.rate := rfl
@[simp] theorem State.emit_window (o : Output) :
    (s.emit o).window = s.window := rfl
@[simp] theorem State.emit_tickFlag (o : Output) :
    (s.emit o).tickFlag = s.tickFlag := rfl
@[simp] theorem State.emit_breakRequested (o : Output) :
    (s.emit o).breakRequested = s.breakRequested := rfl
@[simp] theorem State.emit_ctl (o : Output) :
    (s.emit o).ctl = s.ctl := rfl
@[simp] theorem State.emit_watchpoint (o : Output) :
    (s.emit o).watchpoint = s.watchpoint := rfl
@[simp] theorem State.emit_termExec (o : Output) :
    (s.emit o).termExec = s.termExec := rfl
@[simp] theorem State.emit_enginePC (o : Output) :
    (s.emit o).enginePC = s.enginePC := rfl
@[simp] theorem State.emit_rebootRequested (o : Output) :
    (s.emit o).rebootRequested = s.rebootRequested := rfl
@[simp] theorem State.emit_autorunPending (o : Output) :
    (s.emit o).autorunPending = s.autorunPending := rfl
@[simp] theorem State.emit_clearPending (o : Output) :
    (s.emit o).clearPending = s.clearPending := rfl
@[simp] theorem State.emit_rebooting (o : Output) :
    (s.emit o).rebooting = s.rebooting := rfl
@[simp] theorem State.emit_hook (o : Output) :
    (s.emit o).hook = s.hook := rfl
@[simp] theorem State.emit_rx (o : Output) :
    (s.emit o).rx = s.rx := rfl
@[simp] theorem State.emit_outputs (o : Output) :
    (s.emit o).outputs = s.outputs ++ [o] := rfl
@[simp] theorem State.emit_arrivals (o : Output) :
    (s.emit o).arrivals = s.arrivals := rfl
@[simp] theorem State.emit_draws (o : Output) :
    (s.emit o).draws = s.draws := rfl

/-! ### `Flush()` (R123) -/

@[simp] theorem State.flush_cfg :
    s.flush.cfg = s.cfg := rfl
@[simp] theorem State.flush_inBuf :
    s.flush.inBuf = s.inBuf := rfl
@[simp] theorem State.flush_inCur :
    s.flush.inCur = s.inCur := rfl
@[simp] theorem State.flush_outBuf :
    s.flush.outBuf = [] := rfl
@[simp] theorem State.flush_bufferMode :
    s.flush.bufferMode = s.bufferMode := rfl
@[simp] theorem State.flush_interruptEnabled :
    s.flush.interruptEnabled = s.interruptEnabled := rfl
@[simp] theorem State.flush_interruptPending :
    s.flush.interruptPending = s.interruptPending := rfl
@[simp] theorem State.flush_echoEnabled :
    s.flush.echoEnabled = s.echoEnabled := rfl
@[simp] theorem State.flush_cycleCounter :
    s.flush.cycleCounter = s.cycleCounter := rfl
@[simp] theorem State.flush_rate :
    s.flush.rate = s.rate := rfl
@[simp] theorem State.flush_window :
    s.flush.window = s.window := rfl
@[simp] theorem State.flush_tickFlag :
    s.flush.tickFlag = s.tickFlag := rfl
@[simp] theorem State.flush_breakRequested :
    s.flush.breakRequested = s.breakRequested := rfl
@[simp] theorem State.flush_ctl :
    s.flush.ctl = s.ctl := rfl
@[simp] theorem State.flush_watchpoint :
    s.flush.watchpoint = s.watchpoint := rfl
@[simp] theorem State.flush_termExec :
    s.flush.termExec = s.termExec := rfl
@[simp] theorem State.flush_enginePC :
    s.flush.enginePC = s.enginePC := rfl
@[simp] theorem State.flush_rebootRequested :
    s.flush.rebootRequested = s.rebootRequested := rfl
@[simp] theorem State.flush_autorunPending :
    s.flush.autorunPending = s.autorunPending := rfl
@[simp] theorem State.flush_clearPending :
    s.flush.clearPending = s.clearPending := rfl
@[simp] theorem State.flush_rebooting :
    s.flush.rebooting = s.rebooting := rfl
@[simp] theorem State.flush_hook :
    s.flush.hook = s.hook := rfl
@[simp] theorem State.flush_rx :
    s.flush.rx = s.rx := rfl
@[simp] theorem State.flush_outputs :
    s.flush.outputs = s.outputs ++ [.txEmit s.outBuf] := rfl
@[simp] theorem State.flush_arrivals :
    s.flush.arrivals = s.arrivals := rfl
@[simp] theorem State.flush_draws :
    s.flush.draws = s.draws := rfl

/-! ### `ACIA_RESET()` (R128) -/

@[simp] theorem State.resetAcia_cfg :
    s.resetAcia.cfg = s.cfg := rfl
@[simp] theorem State.resetAcia_inBuf :
    s.resetAcia.inBuf = [] := rfl
@[simp] theorem State.resetAcia_inCur :
    s.resetAcia.inCur = 0 := rfl
@[simp] theorem State.resetAcia_outBuf :
    s.resetAcia.outBuf = [] := rfl
@[simp] theorem State.resetAcia_bufferMode :
    s.resetAcia.bufferMode = .line := rfl
@[simp] theorem State.resetAcia_interruptEnabled :
    s.resetAcia.interruptEnabled = false := rfl
@[simp] theorem State.resetAcia_interruptPending :
    s.resetAcia.interruptPending = false := rfl
@[simp] theorem State.resetAcia_echoEnabled :
    s.resetAcia.echoEnabled = false := rfl
@[simp] theorem State.resetAcia_cycleCounter :
    s.resetAcia.cycleCounter = s.cycleCounter := rfl
@[simp] theorem State.resetAcia_rate :
    s.resetAcia.rate = s.rate := rfl
@[simp] theorem State.resetAcia_window :
    s.resetAcia.window = s.window := rfl
@[simp] theorem State.resetAcia_tickFlag :
    s.resetAcia.tickFlag = s.tickFlag := rfl
@[simp] theorem State.resetAcia_breakRequested :
    s.resetAcia.breakRequested = s.breakRequested := rfl
@[simp] theorem State.resetAcia_ctl :
    s.resetAcia.ctl = s.ctl := rfl
@[simp] theorem State.resetAcia_watchpoint :
    s.resetAcia.watchpoint = s.watchpoint := rfl
@[simp] theorem State.resetAcia_termExec :
    s.resetAcia.termExec = s.termExec := rfl
@[simp] theorem State.resetAcia_enginePC :
    s.resetAcia.enginePC = s.enginePC := rfl
@[simp] theorem State.resetAcia_rebootRequested :
    s.resetAcia.rebootRequested = s.rebootRequested := rfl
@[simp] theorem State.resetAcia_autorunPending :
    s.resetAcia.autorunPending = s.autorunPending := rfl
@[simp] theorem State.resetAcia_clearPending :
    s.resetAcia.clearPending = s.clearPending := rfl
@[simp] theorem State.resetAcia_rebooting :
    s.resetAcia.rebooting = s.rebooting := rfl
@[simp] theorem State.resetAcia_hook :
    s.resetAcia.hook = s.hook := rfl
@[simp] theorem State.resetAcia_rx :
    s.resetAcia.rx = s.rx := rfl
@[simp] theorem State.resetAcia_outputs :
    s.resetAcia.outputs = s.outputs := rfl
@[simp] theorem State.resetAcia_arrivals :
    s.resetAcia.arrivals = s.arrivals := rfl
@[simp] theorem State.resetAcia_draws :
    s.resetAcia.draws = s.draws := rfl

/-! ### The flags and the mode of a control write (R114) -/

@[simp] theorem State.setControl_cfg (v : Byte) (m : BufferMode) :
    (s.setControl v m).cfg = s.cfg := rfl
@[simp] theorem State.setControl_inBuf (v : Byte) (m : BufferMode) :
    (s.setControl v m).inBuf = s.inBuf := rfl
@[simp] theorem State.setControl_inCur (v : Byte) (m : BufferMode) :
    (s.setControl v m).inCur = s.inCur := rfl
@[simp] theorem State.setControl_outBuf (v : Byte) (m : BufferMode) :
    (s.setControl v m).outBuf = s.outBuf := rfl
@[simp] theorem State.setControl_bufferMode (v : Byte) (m : BufferMode) :
    (s.setControl v m).bufferMode = m := rfl
@[simp] theorem State.setControl_interruptEnabled (v : Byte) (m : BufferMode) :
    (s.setControl v m).interruptEnabled = (s.interruptEnabled || ctlIE v) := rfl
@[simp] theorem State.setControl_interruptPending (v : Byte) (m : BufferMode) :
    (s.setControl v m).interruptPending = s.interruptPending := rfl
@[simp] theorem State.setControl_echoEnabled (v : Byte) (m : BufferMode) :
    (s.setControl v m).echoEnabled = echoOf s.cfg.echoSemantics s.echoEnabled (ctlEcho v) := rfl
@[simp] theorem State.setControl_cycleCounter (v : Byte) (m : BufferMode) :
    (s.setControl v m).cycleCounter = s.cycleCounter := rfl
@[simp] theorem State.setControl_rate (v : Byte) (m : BufferMode) :
    (s.setControl v m).rate = s.rate := rfl
@[simp] theorem State.setControl_window (v : Byte) (m : BufferMode) :
    (s.setControl v m).window = s.window := rfl
@[simp] theorem State.setControl_tickFlag (v : Byte) (m : BufferMode) :
    (s.setControl v m).tickFlag = s.tickFlag := rfl
@[simp] theorem State.setControl_breakRequested (v : Byte) (m : BufferMode) :
    (s.setControl v m).breakRequested = s.breakRequested := rfl
@[simp] theorem State.setControl_ctl (v : Byte) (m : BufferMode) :
    (s.setControl v m).ctl = s.ctl := rfl
@[simp] theorem State.setControl_watchpoint (v : Byte) (m : BufferMode) :
    (s.setControl v m).watchpoint = s.watchpoint := rfl
@[simp] theorem State.setControl_termExec (v : Byte) (m : BufferMode) :
    (s.setControl v m).termExec = s.termExec := rfl
@[simp] theorem State.setControl_enginePC (v : Byte) (m : BufferMode) :
    (s.setControl v m).enginePC = s.enginePC := rfl
@[simp] theorem State.setControl_rebootRequested (v : Byte) (m : BufferMode) :
    (s.setControl v m).rebootRequested = s.rebootRequested := rfl
@[simp] theorem State.setControl_autorunPending (v : Byte) (m : BufferMode) :
    (s.setControl v m).autorunPending = s.autorunPending := rfl
@[simp] theorem State.setControl_clearPending (v : Byte) (m : BufferMode) :
    (s.setControl v m).clearPending = s.clearPending := rfl
@[simp] theorem State.setControl_rebooting (v : Byte) (m : BufferMode) :
    (s.setControl v m).rebooting = s.rebooting := rfl
@[simp] theorem State.setControl_hook (v : Byte) (m : BufferMode) :
    (s.setControl v m).hook = s.hook := rfl
@[simp] theorem State.setControl_rx (v : Byte) (m : BufferMode) :
    (s.setControl v m).rx = s.rx := rfl
@[simp] theorem State.setControl_outputs (v : Byte) (m : BufferMode) :
    (s.setControl v m).outputs = s.outputs := rfl
@[simp] theorem State.setControl_arrivals (v : Byte) (m : BufferMode) :
    (s.setControl v m).arrivals = s.arrivals := rfl
@[simp] theorem State.setControl_draws (v : Byte) (m : BufferMode) :
    (s.setControl v m).draws = s.draws := rfl

/-! ### `TermApply` (R114) -/

@[simp] theorem State.applyTerm_cfg :
    s.applyTerm.cfg = s.cfg := rfl
@[simp] theorem State.applyTerm_inBuf :
    s.applyTerm.inBuf = s.inBuf := rfl
@[simp] theorem State.applyTerm_inCur :
    s.applyTerm.inCur = s.inCur := rfl
@[simp] theorem State.applyTerm_outBuf :
    s.applyTerm.outBuf = s.outBuf := rfl
@[simp] theorem State.applyTerm_bufferMode :
    s.applyTerm.bufferMode = s.bufferMode := rfl
@[simp] theorem State.applyTerm_interruptEnabled :
    s.applyTerm.interruptEnabled = s.interruptEnabled := rfl
@[simp] theorem State.applyTerm_interruptPending :
    s.applyTerm.interruptPending = s.interruptPending := rfl
@[simp] theorem State.applyTerm_echoEnabled :
    s.applyTerm.echoEnabled = s.echoEnabled := rfl
@[simp] theorem State.applyTerm_cycleCounter :
    s.applyTerm.cycleCounter = s.cycleCounter := rfl
@[simp] theorem State.applyTerm_rate :
    s.applyTerm.rate = s.rate := rfl
@[simp] theorem State.applyTerm_window :
    s.applyTerm.window = s.window := rfl
@[simp] theorem State.applyTerm_tickFlag :
    s.applyTerm.tickFlag = s.tickFlag := rfl
@[simp] theorem State.applyTerm_breakRequested :
    s.applyTerm.breakRequested = s.breakRequested := rfl
@[simp] theorem State.applyTerm_ctl :
    s.applyTerm.ctl = s.ctl := rfl
@[simp] theorem State.applyTerm_watchpoint :
    s.applyTerm.watchpoint = s.watchpoint := rfl
@[simp] theorem State.applyTerm_termExec :
    s.applyTerm.termExec = s.termExec := rfl
@[simp] theorem State.applyTerm_enginePC :
    s.applyTerm.enginePC = s.enginePC := rfl
@[simp] theorem State.applyTerm_rebootRequested :
    s.applyTerm.rebootRequested = s.rebootRequested := rfl
@[simp] theorem State.applyTerm_autorunPending :
    s.applyTerm.autorunPending = s.autorunPending := rfl
@[simp] theorem State.applyTerm_clearPending :
    s.applyTerm.clearPending = s.clearPending := rfl
@[simp] theorem State.applyTerm_rebooting :
    s.applyTerm.rebooting = s.rebooting := rfl
@[simp] theorem State.applyTerm_hook :
    s.applyTerm.hook = s.hook := rfl
@[simp] theorem State.applyTerm_rx :
    s.applyTerm.rx = s.rx := rfl
@[simp] theorem State.applyTerm_outputs :
    s.applyTerm.outputs = s.outputs ++ [.termApply s.bufferMode s.echoEnabled] := rfl
@[simp] theorem State.applyTerm_arrivals :
    s.applyTerm.arrivals = s.arrivals := rfl
@[simp] theorem State.applyTerm_draws :
    s.applyTerm.draws = s.draws := rfl

/-! ### Entry to an execution operation (R163) -/

@[simp] theorem State.startExec_cfg (k : Kind) :
    (s.startExec k).cfg = s.cfg := rfl
@[simp] theorem State.startExec_inBuf (k : Kind) :
    (s.startExec k).inBuf = s.inBuf := rfl
@[simp] theorem State.startExec_inCur (k : Kind) :
    (s.startExec k).inCur = s.inCur := rfl
@[simp] theorem State.startExec_outBuf (k : Kind) :
    (s.startExec k).outBuf = s.outBuf := rfl
@[simp] theorem State.startExec_bufferMode (k : Kind) :
    (s.startExec k).bufferMode = s.bufferMode := rfl
@[simp] theorem State.startExec_interruptEnabled (k : Kind) :
    (s.startExec k).interruptEnabled = s.interruptEnabled := rfl
@[simp] theorem State.startExec_interruptPending (k : Kind) :
    (s.startExec k).interruptPending = s.interruptPending := rfl
@[simp] theorem State.startExec_echoEnabled (k : Kind) :
    (s.startExec k).echoEnabled = s.echoEnabled := rfl
@[simp] theorem State.startExec_cycleCounter (k : Kind) :
    (s.startExec k).cycleCounter = s.cycleCounter := rfl
@[simp] theorem State.startExec_rate (k : Kind) :
    (s.startExec k).rate = s.rate := rfl
@[simp] theorem State.startExec_window (k : Kind) :
    (s.startExec k).window = s.window := rfl
@[simp] theorem State.startExec_tickFlag (k : Kind) :
    (s.startExec k).tickFlag = s.tickFlag := rfl
@[simp] theorem State.startExec_breakRequested (k : Kind) :
    (s.startExec k).breakRequested = s.breakRequested := rfl
@[simp] theorem State.startExec_ctl (k : Kind) :
    (s.startExec k).ctl = .exec k (.batch false) := rfl
@[simp] theorem State.startExec_watchpoint (k : Kind) :
    (s.startExec k).watchpoint = s.watchpoint := rfl
@[simp] theorem State.startExec_termExec (k : Kind) :
    (s.startExec k).termExec = true := rfl
@[simp] theorem State.startExec_enginePC (k : Kind) :
    (s.startExec k).enginePC = s.enginePC := rfl
@[simp] theorem State.startExec_rebootRequested (k : Kind) :
    (s.startExec k).rebootRequested = s.rebootRequested := rfl
@[simp] theorem State.startExec_autorunPending (k : Kind) :
    (s.startExec k).autorunPending = false := rfl
@[simp] theorem State.startExec_clearPending (k : Kind) :
    (s.startExec k).clearPending = s.clearPending := rfl
@[simp] theorem State.startExec_rebooting (k : Kind) :
    (s.startExec k).rebooting = s.rebooting := rfl
@[simp] theorem State.startExec_hook (k : Kind) :
    (s.startExec k).hook = s.hook := rfl
@[simp] theorem State.startExec_rx (k : Kind) :
    (s.startExec k).rx = s.rx := rfl
@[simp] theorem State.startExec_outputs (k : Kind) :
    (s.startExec k).outputs = s.outputs := rfl
@[simp] theorem State.startExec_arrivals (k : Kind) :
    (s.startExec k).arrivals = s.arrivals := rfl
@[simp] theorem State.startExec_draws (k : Kind) :
    (s.startExec k).draws = s.draws := rfl

/-! ### `EXIT` (R163) -/

@[simp] theorem State.leaveExec_cfg (r : RunResult) :
    (s.leaveExec r).cfg = s.cfg := rfl
@[simp] theorem State.leaveExec_inBuf (r : RunResult) :
    (s.leaveExec r).inBuf = s.inBuf := rfl
@[simp] theorem State.leaveExec_inCur (r : RunResult) :
    (s.leaveExec r).inCur = s.inCur := rfl
@[simp] theorem State.leaveExec_outBuf (r : RunResult) :
    (s.leaveExec r).outBuf = s.outBuf := rfl
@[simp] theorem State.leaveExec_bufferMode (r : RunResult) :
    (s.leaveExec r).bufferMode = s.bufferMode := rfl
@[simp] theorem State.leaveExec_interruptEnabled (r : RunResult) :
    (s.leaveExec r).interruptEnabled = s.interruptEnabled := rfl
@[simp] theorem State.leaveExec_interruptPending (r : RunResult) :
    (s.leaveExec r).interruptPending = s.interruptPending := rfl
@[simp] theorem State.leaveExec_echoEnabled (r : RunResult) :
    (s.leaveExec r).echoEnabled = s.echoEnabled := rfl
@[simp] theorem State.leaveExec_cycleCounter (r : RunResult) :
    (s.leaveExec r).cycleCounter = s.cycleCounter := rfl
@[simp] theorem State.leaveExec_rate (r : RunResult) :
    (s.leaveExec r).rate = s.rate := rfl
@[simp] theorem State.leaveExec_window (r : RunResult) :
    (s.leaveExec r).window = s.window := rfl
@[simp] theorem State.leaveExec_tickFlag (r : RunResult) :
    (s.leaveExec r).tickFlag = s.tickFlag := rfl
@[simp] theorem State.leaveExec_breakRequested (r : RunResult) :
    (s.leaveExec r).breakRequested = (s.breakRequested && !s.clearPending) := rfl
@[simp] theorem State.leaveExec_ctl (r : RunResult) :
    (s.leaveExec r).ctl = .idle := rfl
@[simp] theorem State.leaveExec_watchpoint (r : RunResult) :
    (s.leaveExec r).watchpoint = s.watchpoint := rfl
@[simp] theorem State.leaveExec_termExec (r : RunResult) :
    (s.leaveExec r).termExec = false := rfl
@[simp] theorem State.leaveExec_enginePC (r : RunResult) :
    (s.leaveExec r).enginePC = s.enginePC := rfl
@[simp] theorem State.leaveExec_rebootRequested (r : RunResult) :
    (s.leaveExec r).rebootRequested = s.rebootRequested := rfl
@[simp] theorem State.leaveExec_autorunPending (r : RunResult) :
    (s.leaveExec r).autorunPending = s.autorunPending := rfl
@[simp] theorem State.leaveExec_clearPending (r : RunResult) :
    (s.leaveExec r).clearPending = false := rfl
@[simp] theorem State.leaveExec_rebooting (r : RunResult) :
    (s.leaveExec r).rebooting = s.rebooting := rfl
@[simp] theorem State.leaveExec_hook (r : RunResult) :
    (s.leaveExec r).hook = s.hook := rfl
@[simp] theorem State.leaveExec_rx (r : RunResult) :
    (s.leaveExec r).rx = s.rx := rfl
@[simp] theorem State.leaveExec_outputs (r : RunResult) :
    (s.leaveExec r).outputs = s.outputs ++ [.result r] := rfl
@[simp] theorem State.leaveExec_arrivals (r : RunResult) :
    (s.leaveExec r).arrivals = s.arrivals := rfl
@[simp] theorem State.leaveExec_draws (r : RunResult) :
    (s.leaveExec r).draws = s.draws := rfl

/-! ### Taking the engine error (R205) -/

@[simp] theorem State.takeEngineError_cfg (c : Long) :
    (s.takeEngineError c).cfg = s.cfg := rfl
@[simp] theorem State.takeEngineError_inBuf (c : Long) :
    (s.takeEngineError c).inBuf = s.inBuf := rfl
@[simp] theorem State.takeEngineError_inCur (c : Long) :
    (s.takeEngineError c).inCur = s.inCur := rfl
@[simp] theorem State.takeEngineError_outBuf (c : Long) :
    (s.takeEngineError c).outBuf = s.outBuf := rfl
@[simp] theorem State.takeEngineError_bufferMode (c : Long) :
    (s.takeEngineError c).bufferMode = s.bufferMode := rfl
@[simp] theorem State.takeEngineError_interruptEnabled (c : Long) :
    (s.takeEngineError c).interruptEnabled = s.interruptEnabled := rfl
@[simp] theorem State.takeEngineError_interruptPending (c : Long) :
    (s.takeEngineError c).interruptPending = s.interruptPending := rfl
@[simp] theorem State.takeEngineError_echoEnabled (c : Long) :
    (s.takeEngineError c).echoEnabled = s.echoEnabled := rfl
@[simp] theorem State.takeEngineError_cycleCounter (c : Long) :
    (s.takeEngineError c).cycleCounter = s.cycleCounter := rfl
@[simp] theorem State.takeEngineError_rate (c : Long) :
    (s.takeEngineError c).rate = s.rate := rfl
@[simp] theorem State.takeEngineError_window (c : Long) :
    (s.takeEngineError c).window = s.window := rfl
@[simp] theorem State.takeEngineError_tickFlag (c : Long) :
    (s.takeEngineError c).tickFlag = s.tickFlag := rfl
@[simp] theorem State.takeEngineError_breakRequested (c : Long) :
    (s.takeEngineError c).breakRequested = (true && !s.clearPending) := rfl
@[simp] theorem State.takeEngineError_ctl (c : Long) :
    (s.takeEngineError c).ctl = .idle := rfl
@[simp] theorem State.takeEngineError_watchpoint (c : Long) :
    (s.takeEngineError c).watchpoint = s.watchpoint := rfl
@[simp] theorem State.takeEngineError_termExec (c : Long) :
    (s.takeEngineError c).termExec = false := rfl
@[simp] theorem State.takeEngineError_enginePC (c : Long) :
    (s.takeEngineError c).enginePC = s.enginePC := rfl
@[simp] theorem State.takeEngineError_rebootRequested (c : Long) :
    (s.takeEngineError c).rebootRequested = s.rebootRequested := rfl
@[simp] theorem State.takeEngineError_autorunPending (c : Long) :
    (s.takeEngineError c).autorunPending = s.autorunPending := rfl
@[simp] theorem State.takeEngineError_clearPending (c : Long) :
    (s.takeEngineError c).clearPending = false := rfl
@[simp] theorem State.takeEngineError_rebooting (c : Long) :
    (s.takeEngineError c).rebooting = s.rebooting := rfl
@[simp] theorem State.takeEngineError_hook (c : Long) :
    (s.takeEngineError c).hook = s.hook := rfl
@[simp] theorem State.takeEngineError_rx (c : Long) :
    (s.takeEngineError c).rx = s.rx := rfl
@[simp] theorem State.takeEngineError_outputs (c : Long) :
    (s.takeEngineError c).outputs = s.outputs ++ [.result (.engineError c)] := rfl
@[simp] theorem State.takeEngineError_arrivals (c : Long) :
    (s.takeEngineError c).arrivals = s.arrivals := rfl
@[simp] theorem State.takeEngineError_draws (c : Long) :
    (s.takeEngineError c).draws = s.draws := rfl

/-! ### The start of a command-loop iteration (R162) -/

@[simp] theorem State.beginIteration_cfg :
    s.beginIteration.cfg = s.cfg := rfl
@[simp] theorem State.beginIteration_inBuf :
    s.beginIteration.inBuf = s.inBuf := rfl
@[simp] theorem State.beginIteration_inCur :
    s.beginIteration.inCur = s.inCur := rfl
@[simp] theorem State.beginIteration_outBuf :
    s.beginIteration.outBuf = s.outBuf := rfl
@[simp] theorem State.beginIteration_bufferMode :
    s.beginIteration.bufferMode = s.bufferMode := rfl
@[simp] theorem State.beginIteration_interruptEnabled :
    s.beginIteration.interruptEnabled = s.interruptEnabled := rfl
@[simp] theorem State.beginIteration_interruptPending :
    s.beginIteration.interruptPending = s.interruptPending := rfl
@[simp] theorem State.beginIteration_echoEnabled :
    s.beginIteration.echoEnabled = s.echoEnabled := rfl
@[simp] theorem State.beginIteration_cycleCounter :
    s.beginIteration.cycleCounter = s.cycleCounter := rfl
@[simp] theorem State.beginIteration_rate :
    s.beginIteration.rate = s.rate := rfl
@[simp] theorem State.beginIteration_window :
    s.beginIteration.window = s.window := rfl
@[simp] theorem State.beginIteration_tickFlag :
    s.beginIteration.tickFlag = s.tickFlag := rfl
@[simp] theorem State.beginIteration_breakRequested :
    s.beginIteration.breakRequested = (s.breakRequested && decide (s.cfg.brkClearPoint = .afterDispatch)) := rfl
@[simp] theorem State.beginIteration_ctl :
    s.beginIteration.ctl = s.ctl := rfl
@[simp] theorem State.beginIteration_watchpoint :
    s.beginIteration.watchpoint = s.watchpoint := rfl
@[simp] theorem State.beginIteration_termExec :
    s.beginIteration.termExec = s.termExec := rfl
@[simp] theorem State.beginIteration_enginePC :
    s.beginIteration.enginePC = s.enginePC := rfl
@[simp] theorem State.beginIteration_rebootRequested :
    s.beginIteration.rebootRequested = s.rebootRequested := rfl
@[simp] theorem State.beginIteration_autorunPending :
    s.beginIteration.autorunPending = s.autorunPending := rfl
@[simp] theorem State.beginIteration_clearPending :
    s.beginIteration.clearPending = s.clearPending := rfl
@[simp] theorem State.beginIteration_rebooting :
    s.beginIteration.rebooting = s.rebooting := rfl
@[simp] theorem State.beginIteration_hook :
    s.beginIteration.hook = s.hook := rfl
@[simp] theorem State.beginIteration_rx :
    s.beginIteration.rx = s.rx := rfl
@[simp] theorem State.beginIteration_outputs :
    s.beginIteration.outputs = s.outputs := rfl
@[simp] theorem State.beginIteration_arrivals :
    s.beginIteration.arrivals = s.arrivals := rfl
@[simp] theorem State.beginIteration_draws :
    s.beginIteration.draws = s.draws := rfl

/-! ### The end of a command's dispatch (R162) -/

@[simp] theorem State.endDispatch_cfg :
    s.endDispatch.cfg = s.cfg := rfl
@[simp] theorem State.endDispatch_inBuf :
    s.endDispatch.inBuf = s.inBuf := rfl
@[simp] theorem State.endDispatch_inCur :
    s.endDispatch.inCur = s.inCur := rfl
@[simp] theorem State.endDispatch_outBuf :
    s.endDispatch.outBuf = s.outBuf := rfl
@[simp] theorem State.endDispatch_bufferMode :
    s.endDispatch.bufferMode = s.bufferMode := rfl
@[simp] theorem State.endDispatch_interruptEnabled :
    s.endDispatch.interruptEnabled = s.interruptEnabled := rfl
@[simp] theorem State.endDispatch_interruptPending :
    s.endDispatch.interruptPending = s.interruptPending := rfl
@[simp] theorem State.endDispatch_echoEnabled :
    s.endDispatch.echoEnabled = s.echoEnabled := rfl
@[simp] theorem State.endDispatch_cycleCounter :
    s.endDispatch.cycleCounter = s.cycleCounter := rfl
@[simp] theorem State.endDispatch_rate :
    s.endDispatch.rate = s.rate := rfl
@[simp] theorem State.endDispatch_window :
    s.endDispatch.window = s.window := rfl
@[simp] theorem State.endDispatch_tickFlag :
    s.endDispatch.tickFlag = s.tickFlag := rfl
@[simp] theorem State.endDispatch_breakRequested :
    s.endDispatch.breakRequested = (s.breakRequested && !(decide (s.cfg.brkClearPoint = .afterDispatch) && s.inCommandLoop)) := rfl
@[simp] theorem State.endDispatch_ctl :
    s.endDispatch.ctl = s.ctl := rfl
@[simp] theorem State.endDispatch_watchpoint :
    s.endDispatch.watchpoint = s.watchpoint := rfl
@[simp] theorem State.endDispatch_termExec :
    s.endDispatch.termExec = s.termExec := rfl
@[simp] theorem State.endDispatch_enginePC :
    s.endDispatch.enginePC = s.enginePC := rfl
@[simp] theorem State.endDispatch_rebootRequested :
    s.endDispatch.rebootRequested = s.rebootRequested := rfl
@[simp] theorem State.endDispatch_autorunPending :
    s.endDispatch.autorunPending = s.autorunPending := rfl
@[simp] theorem State.endDispatch_clearPending :
    s.endDispatch.clearPending = (s.clearPending || decide (s.cfg.brkClearPoint = .afterDispatch) && !s.inCommandLoop) := rfl
@[simp] theorem State.endDispatch_rebooting :
    s.endDispatch.rebooting = s.rebooting := rfl
@[simp] theorem State.endDispatch_hook :
    s.endDispatch.hook = s.hook := rfl
@[simp] theorem State.endDispatch_rx :
    s.endDispatch.rx = s.rx := rfl
@[simp] theorem State.endDispatch_outputs :
    s.endDispatch.outputs = s.outputs := rfl
@[simp] theorem State.endDispatch_arrivals :
    s.endDispatch.arrivals = s.arrivals := rfl
@[simp] theorem State.endDispatch_draws :
    s.endDispatch.draws = s.draws := rfl

/-! ### `EngineReset()` (R8) -/

@[simp] theorem State.resetEngine_cfg :
    s.resetEngine.cfg = s.cfg := rfl
@[simp] theorem State.resetEngine_inBuf :
    s.resetEngine.inBuf = s.inBuf := rfl
@[simp] theorem State.resetEngine_inCur :
    s.resetEngine.inCur = s.inCur := rfl
@[simp] theorem State.resetEngine_outBuf :
    s.resetEngine.outBuf = s.outBuf := rfl
@[simp] theorem State.resetEngine_bufferMode :
    s.resetEngine.bufferMode = s.bufferMode := rfl
@[simp] theorem State.resetEngine_interruptEnabled :
    s.resetEngine.interruptEnabled = s.interruptEnabled := rfl
@[simp] theorem State.resetEngine_interruptPending :
    s.resetEngine.interruptPending = s.interruptPending := rfl
@[simp] theorem State.resetEngine_echoEnabled :
    s.resetEngine.echoEnabled = s.echoEnabled := rfl
@[simp] theorem State.resetEngine_cycleCounter :
    s.resetEngine.cycleCounter = s.cycleCounter := rfl
@[simp] theorem State.resetEngine_rate :
    s.resetEngine.rate = s.rate := rfl
@[simp] theorem State.resetEngine_window :
    s.resetEngine.window = s.window := rfl
@[simp] theorem State.resetEngine_tickFlag :
    s.resetEngine.tickFlag = s.tickFlag := rfl
@[simp] theorem State.resetEngine_breakRequested :
    s.resetEngine.breakRequested = s.breakRequested := rfl
@[simp] theorem State.resetEngine_ctl :
    s.resetEngine.ctl = s.ctl := rfl
@[simp] theorem State.resetEngine_watchpoint :
    s.resetEngine.watchpoint = s.watchpoint := rfl
@[simp] theorem State.resetEngine_termExec :
    s.resetEngine.termExec = s.termExec := rfl
@[simp] theorem State.resetEngine_enginePC :
    s.resetEngine.enginePC = Config.engineResetPC s.draws := rfl
@[simp] theorem State.resetEngine_rebootRequested :
    s.resetEngine.rebootRequested = s.rebootRequested := rfl
@[simp] theorem State.resetEngine_autorunPending :
    s.resetEngine.autorunPending = s.autorunPending := rfl
@[simp] theorem State.resetEngine_clearPending :
    s.resetEngine.clearPending = s.clearPending := rfl
@[simp] theorem State.resetEngine_rebooting :
    s.resetEngine.rebooting = s.rebooting := rfl
@[simp] theorem State.resetEngine_hook :
    s.resetEngine.hook = s.hook := rfl
@[simp] theorem State.resetEngine_rx :
    s.resetEngine.rx = s.rx := rfl
@[simp] theorem State.resetEngine_outputs :
    s.resetEngine.outputs = s.outputs ++ [.engineReset] := rfl
@[simp] theorem State.resetEngine_arrivals :
    s.resetEngine.arrivals = s.arrivals := rfl
@[simp] theorem State.resetEngine_draws :
    s.resetEngine.draws = s.draws + 1 := rfl

/-! ### The reboot sequence begins (R180) -/

@[simp] theorem State.beginReboot_cfg :
    s.beginReboot.cfg = s.cfg := rfl
@[simp] theorem State.beginReboot_inBuf :
    s.beginReboot.inBuf = s.inBuf := rfl
@[simp] theorem State.beginReboot_inCur :
    s.beginReboot.inCur = s.inCur := rfl
@[simp] theorem State.beginReboot_outBuf :
    s.beginReboot.outBuf = s.outBuf := rfl
@[simp] theorem State.beginReboot_bufferMode :
    s.beginReboot.bufferMode = s.bufferMode := rfl
@[simp] theorem State.beginReboot_interruptEnabled :
    s.beginReboot.interruptEnabled = s.interruptEnabled := rfl
@[simp] theorem State.beginReboot_interruptPending :
    s.beginReboot.interruptPending = s.interruptPending := rfl
@[simp] theorem State.beginReboot_echoEnabled :
    s.beginReboot.echoEnabled = s.echoEnabled := rfl
@[simp] theorem State.beginReboot_cycleCounter :
    s.beginReboot.cycleCounter = s.cycleCounter := rfl
@[simp] theorem State.beginReboot_rate :
    s.beginReboot.rate = s.rate := rfl
@[simp] theorem State.beginReboot_window :
    s.beginReboot.window = s.window := rfl
@[simp] theorem State.beginReboot_tickFlag :
    s.beginReboot.tickFlag = s.tickFlag := rfl
@[simp] theorem State.beginReboot_breakRequested :
    s.beginReboot.breakRequested = s.breakRequested := rfl
@[simp] theorem State.beginReboot_ctl :
    s.beginReboot.ctl = s.ctl := rfl
@[simp] theorem State.beginReboot_watchpoint :
    s.beginReboot.watchpoint = s.watchpoint := rfl
@[simp] theorem State.beginReboot_termExec :
    s.beginReboot.termExec = s.termExec := rfl
@[simp] theorem State.beginReboot_enginePC :
    s.beginReboot.enginePC = s.enginePC := rfl
@[simp] theorem State.beginReboot_rebootRequested :
    s.beginReboot.rebootRequested = s.rebootRequested := rfl
@[simp] theorem State.beginReboot_autorunPending :
    s.beginReboot.autorunPending = s.autorunPending := rfl
@[simp] theorem State.beginReboot_clearPending :
    s.beginReboot.clearPending = s.clearPending := rfl
@[simp] theorem State.beginReboot_rebooting :
    s.beginReboot.rebooting = true := rfl
@[simp] theorem State.beginReboot_hook :
    s.beginReboot.hook = some 0b10#2 := rfl
@[simp] theorem State.beginReboot_rx :
    s.beginReboot.rx = s.rx := rfl
@[simp] theorem State.beginReboot_outputs :
    s.beginReboot.outputs = s.outputs := rfl
@[simp] theorem State.beginReboot_arrivals :
    s.beginReboot.arrivals = s.arrivals := rfl
@[simp] theorem State.beginReboot_draws :
    s.beginReboot.draws = s.draws := rfl

/-! ### The reboot sequence after `ACIA_RESET` (R180) -/

@[simp] theorem State.finishReboot_cfg :
    s.finishReboot.cfg = s.cfg := rfl
@[simp] theorem State.finishReboot_inBuf :
    s.finishReboot.inBuf = s.inBuf := rfl
@[simp] theorem State.finishReboot_inCur :
    s.finishReboot.inCur = s.inCur := rfl
@[simp] theorem State.finishReboot_outBuf :
    s.finishReboot.outBuf = s.outBuf := rfl
@[simp] theorem State.finishReboot_bufferMode :
    s.finishReboot.bufferMode = s.bufferMode := rfl
@[simp] theorem State.finishReboot_interruptEnabled :
    s.finishReboot.interruptEnabled = s.interruptEnabled := rfl
@[simp] theorem State.finishReboot_interruptPending :
    s.finishReboot.interruptPending = s.interruptPending := rfl
@[simp] theorem State.finishReboot_echoEnabled :
    s.finishReboot.echoEnabled = s.echoEnabled := rfl
@[simp] theorem State.finishReboot_cycleCounter :
    s.finishReboot.cycleCounter = s.cycleCounter := rfl
@[simp] theorem State.finishReboot_rate :
    s.finishReboot.rate = s.rate := rfl
@[simp] theorem State.finishReboot_window :
    s.finishReboot.window = s.window := rfl
@[simp] theorem State.finishReboot_tickFlag :
    s.finishReboot.tickFlag = s.tickFlag := rfl
@[simp] theorem State.finishReboot_breakRequested :
    s.finishReboot.breakRequested = false := rfl
@[simp] theorem State.finishReboot_ctl :
    s.finishReboot.ctl = .exec .run (.batch false) := rfl
@[simp] theorem State.finishReboot_watchpoint :
    s.finishReboot.watchpoint = s.watchpoint := rfl
@[simp] theorem State.finishReboot_termExec :
    s.finishReboot.termExec = true := rfl
@[simp] theorem State.finishReboot_enginePC :
    s.finishReboot.enginePC = Config.engineResetPC s.draws := rfl
@[simp] theorem State.finishReboot_rebootRequested :
    s.finishReboot.rebootRequested = false := rfl
@[simp] theorem State.finishReboot_autorunPending :
    s.finishReboot.autorunPending = false := rfl
@[simp] theorem State.finishReboot_clearPending :
    s.finishReboot.clearPending = s.clearPending := rfl
@[simp] theorem State.finishReboot_rebooting :
    s.finishReboot.rebooting = false := rfl
@[simp] theorem State.finishReboot_hook :
    s.finishReboot.hook = s.hook := rfl
@[simp] theorem State.finishReboot_rx :
    s.finishReboot.rx = s.rx := rfl
@[simp] theorem State.finishReboot_outputs :
    s.finishReboot.outputs = s.outputs ++ [.engineReset] := rfl
@[simp] theorem State.finishReboot_arrivals :
    s.finishReboot.arrivals = s.arrivals := rfl
@[simp] theorem State.finishReboot_draws :
    s.finishReboot.draws = s.draws + 1 := rfl

/-! ### The event handlers (R147, R183) -/

@[simp] theorem State.setEventFlags_cfg (b t : Bool) :
    (s.setEventFlags b t).cfg = s.cfg := rfl
@[simp] theorem State.setEventFlags_inBuf (b t : Bool) :
    (s.setEventFlags b t).inBuf = s.inBuf := rfl
@[simp] theorem State.setEventFlags_inCur (b t : Bool) :
    (s.setEventFlags b t).inCur = s.inCur := rfl
@[simp] theorem State.setEventFlags_outBuf (b t : Bool) :
    (s.setEventFlags b t).outBuf = s.outBuf := rfl
@[simp] theorem State.setEventFlags_bufferMode (b t : Bool) :
    (s.setEventFlags b t).bufferMode = s.bufferMode := rfl
@[simp] theorem State.setEventFlags_interruptEnabled (b t : Bool) :
    (s.setEventFlags b t).interruptEnabled = s.interruptEnabled := rfl
@[simp] theorem State.setEventFlags_interruptPending (b t : Bool) :
    (s.setEventFlags b t).interruptPending = s.interruptPending := rfl
@[simp] theorem State.setEventFlags_echoEnabled (b t : Bool) :
    (s.setEventFlags b t).echoEnabled = s.echoEnabled := rfl
@[simp] theorem State.setEventFlags_cycleCounter (b t : Bool) :
    (s.setEventFlags b t).cycleCounter = s.cycleCounter := rfl
@[simp] theorem State.setEventFlags_rate (b t : Bool) :
    (s.setEventFlags b t).rate = s.rate := rfl
@[simp] theorem State.setEventFlags_window (b t : Bool) :
    (s.setEventFlags b t).window = s.window := rfl
@[simp] theorem State.setEventFlags_tickFlag (b t : Bool) :
    (s.setEventFlags b t).tickFlag = (s.tickFlag || t) := rfl
@[simp] theorem State.setEventFlags_breakRequested (b t : Bool) :
    (s.setEventFlags b t).breakRequested = (s.breakRequested || b) := rfl
@[simp] theorem State.setEventFlags_ctl (b t : Bool) :
    (s.setEventFlags b t).ctl = s.ctl := rfl
@[simp] theorem State.setEventFlags_watchpoint (b t : Bool) :
    (s.setEventFlags b t).watchpoint = s.watchpoint := rfl
@[simp] theorem State.setEventFlags_termExec (b t : Bool) :
    (s.setEventFlags b t).termExec = s.termExec := rfl
@[simp] theorem State.setEventFlags_enginePC (b t : Bool) :
    (s.setEventFlags b t).enginePC = s.enginePC := rfl
@[simp] theorem State.setEventFlags_rebootRequested (b t : Bool) :
    (s.setEventFlags b t).rebootRequested = s.rebootRequested := rfl
@[simp] theorem State.setEventFlags_autorunPending (b t : Bool) :
    (s.setEventFlags b t).autorunPending = s.autorunPending := rfl
@[simp] theorem State.setEventFlags_clearPending (b t : Bool) :
    (s.setEventFlags b t).clearPending = s.clearPending := rfl
@[simp] theorem State.setEventFlags_rebooting (b t : Bool) :
    (s.setEventFlags b t).rebooting = s.rebooting := rfl
@[simp] theorem State.setEventFlags_hook (b t : Bool) :
    (s.setEventFlags b t).hook = s.hook := rfl
@[simp] theorem State.setEventFlags_rx (b t : Bool) :
    (s.setEventFlags b t).rx = s.rx := rfl
@[simp] theorem State.setEventFlags_outputs (b t : Bool) :
    (s.setEventFlags b t).outputs = s.outputs := rfl
@[simp] theorem State.setEventFlags_arrivals (b t : Bool) :
    (s.setEventFlags b t).arrivals = s.arrivals := rfl
@[simp] theorem State.setEventFlags_draws (b t : Bool) :
    (s.setEventFlags b t).draws = s.draws := rfl

/-! ### The end of a suspension (R146) -/

@[simp] theorem State.endSuspension_cfg (k : Kind) :
    (s.endSuspension k).cfg = s.cfg := rfl
@[simp] theorem State.endSuspension_inBuf (k : Kind) :
    (s.endSuspension k).inBuf = s.inBuf := rfl
@[simp] theorem State.endSuspension_inCur (k : Kind) :
    (s.endSuspension k).inCur = s.inCur := rfl
@[simp] theorem State.endSuspension_outBuf (k : Kind) :
    (s.endSuspension k).outBuf = s.outBuf := rfl
@[simp] theorem State.endSuspension_bufferMode (k : Kind) :
    (s.endSuspension k).bufferMode = s.bufferMode := rfl
@[simp] theorem State.endSuspension_interruptEnabled (k : Kind) :
    (s.endSuspension k).interruptEnabled = s.interruptEnabled := rfl
@[simp] theorem State.endSuspension_interruptPending (k : Kind) :
    (s.endSuspension k).interruptPending = s.interruptPending := rfl
@[simp] theorem State.endSuspension_echoEnabled (k : Kind) :
    (s.endSuspension k).echoEnabled = s.echoEnabled := rfl
@[simp] theorem State.endSuspension_cycleCounter (k : Kind) :
    (s.endSuspension k).cycleCounter = s.cycleCounter := rfl
@[simp] theorem State.endSuspension_rate (k : Kind) :
    (s.endSuspension k).rate = s.rate := rfl
@[simp] theorem State.endSuspension_window (k : Kind) :
    (s.endSuspension k).window = (if s.tickFlag then 0 else s.window) := rfl
@[simp] theorem State.endSuspension_tickFlag (k : Kind) :
    (s.endSuspension k).tickFlag = false := rfl
@[simp] theorem State.endSuspension_breakRequested (k : Kind) :
    (s.endSuspension k).breakRequested = s.breakRequested := rfl
@[simp] theorem State.endSuspension_ctl (k : Kind) :
    (s.endSuspension k).ctl = .exec k (.poll none) := rfl
@[simp] theorem State.endSuspension_watchpoint (k : Kind) :
    (s.endSuspension k).watchpoint = s.watchpoint := rfl
@[simp] theorem State.endSuspension_termExec (k : Kind) :
    (s.endSuspension k).termExec = s.termExec := rfl
@[simp] theorem State.endSuspension_enginePC (k : Kind) :
    (s.endSuspension k).enginePC = s.enginePC := rfl
@[simp] theorem State.endSuspension_rebootRequested (k : Kind) :
    (s.endSuspension k).rebootRequested = s.rebootRequested := rfl
@[simp] theorem State.endSuspension_autorunPending (k : Kind) :
    (s.endSuspension k).autorunPending = s.autorunPending := rfl
@[simp] theorem State.endSuspension_clearPending (k : Kind) :
    (s.endSuspension k).clearPending = s.clearPending := rfl
@[simp] theorem State.endSuspension_rebooting (k : Kind) :
    (s.endSuspension k).rebooting = s.rebooting := rfl
@[simp] theorem State.endSuspension_hook (k : Kind) :
    (s.endSuspension k).hook = s.hook := rfl
@[simp] theorem State.endSuspension_rx (k : Kind) :
    (s.endSuspension k).rx = s.rx := rfl
@[simp] theorem State.endSuspension_outputs (k : Kind) :
    (s.endSuspension k).outputs = s.outputs := rfl
@[simp] theorem State.endSuspension_arrivals (k : Kind) :
    (s.endSuspension k).arrivals = s.arrivals := rfl
@[simp] theorem State.endSuspension_draws (k : Kind) :
    (s.endSuspension k).draws = s.draws := rfl

/-! ### The return of a batch (R161) -/

@[simp] theorem State.returnBatch_cfg (k : Kind) (c : Long) (pc : Addr) (rb : Bool) :
    (s.returnBatch k c pc rb).cfg = s.cfg := rfl
@[simp] theorem State.returnBatch_inBuf (k : Kind) (c : Long) (pc : Addr) (rb : Bool) :
    (s.returnBatch k c pc rb).inBuf = s.inBuf := rfl
@[simp] theorem State.returnBatch_inCur (k : Kind) (c : Long) (pc : Addr) (rb : Bool) :
    (s.returnBatch k c pc rb).inCur = s.inCur := rfl
@[simp] theorem State.returnBatch_outBuf (k : Kind) (c : Long) (pc : Addr) (rb : Bool) :
    (s.returnBatch k c pc rb).outBuf = s.outBuf := rfl
@[simp] theorem State.returnBatch_bufferMode (k : Kind) (c : Long) (pc : Addr) (rb : Bool) :
    (s.returnBatch k c pc rb).bufferMode = s.bufferMode := rfl
@[simp] theorem State.returnBatch_interruptEnabled (k : Kind) (c : Long) (pc : Addr) (rb : Bool) :
    (s.returnBatch k c pc rb).interruptEnabled = s.interruptEnabled := rfl
@[simp] theorem State.returnBatch_interruptPending (k : Kind) (c : Long) (pc : Addr) (rb : Bool) :
    (s.returnBatch k c pc rb).interruptPending = s.interruptPending := rfl
@[simp] theorem State.returnBatch_echoEnabled (k : Kind) (c : Long) (pc : Addr) (rb : Bool) :
    (s.returnBatch k c pc rb).echoEnabled = s.echoEnabled := rfl
@[simp] theorem State.returnBatch_cycleCounter (k : Kind) (c : Long) (pc : Addr) (rb : Bool) :
    (s.returnBatch k c pc rb).cycleCounter = s.cycleCounter := rfl
@[simp] theorem State.returnBatch_rate (k : Kind) (c : Long) (pc : Addr) (rb : Bool) :
    (s.returnBatch k c pc rb).rate = s.rate := rfl
@[simp] theorem State.returnBatch_window (k : Kind) (c : Long) (pc : Addr) (rb : Bool) :
    (s.returnBatch k c pc rb).window = s.window := rfl
@[simp] theorem State.returnBatch_tickFlag (k : Kind) (c : Long) (pc : Addr) (rb : Bool) :
    (s.returnBatch k c pc rb).tickFlag = s.tickFlag := rfl
@[simp] theorem State.returnBatch_breakRequested (k : Kind) (c : Long) (pc : Addr) (rb : Bool) :
    (s.returnBatch k c pc rb).breakRequested = s.breakRequested := rfl
@[simp] theorem State.returnBatch_ctl (k : Kind) (c : Long) (pc : Addr) (rb : Bool) :
    (s.returnBatch k c pc rb).ctl = .exec k (.count c) := rfl
@[simp] theorem State.returnBatch_watchpoint (k : Kind) (c : Long) (pc : Addr) (rb : Bool) :
    (s.returnBatch k c pc rb).watchpoint = s.watchpoint := rfl
@[simp] theorem State.returnBatch_termExec (k : Kind) (c : Long) (pc : Addr) (rb : Bool) :
    (s.returnBatch k c pc rb).termExec = s.termExec := rfl
@[simp] theorem State.returnBatch_enginePC (k : Kind) (c : Long) (pc : Addr) (rb : Bool) :
    (s.returnBatch k c pc rb).enginePC = pc := rfl
@[simp] theorem State.returnBatch_rebootRequested (k : Kind) (c : Long) (pc : Addr) (rb : Bool) :
    (s.returnBatch k c pc rb).rebootRequested = (s.rebootRequested || rb) := rfl
@[simp] theorem State.returnBatch_autorunPending (k : Kind) (c : Long) (pc : Addr) (rb : Bool) :
    (s.returnBatch k c pc rb).autorunPending = s.autorunPending := rfl
@[simp] theorem State.returnBatch_clearPending (k : Kind) (c : Long) (pc : Addr) (rb : Bool) :
    (s.returnBatch k c pc rb).clearPending = s.clearPending := rfl
@[simp] theorem State.returnBatch_rebooting (k : Kind) (c : Long) (pc : Addr) (rb : Bool) :
    (s.returnBatch k c pc rb).rebooting = s.rebooting := rfl
@[simp] theorem State.returnBatch_hook (k : Kind) (c : Long) (pc : Addr) (rb : Bool) :
    (s.returnBatch k c pc rb).hook = s.hook := rfl
@[simp] theorem State.returnBatch_rx (k : Kind) (c : Long) (pc : Addr) (rb : Bool) :
    (s.returnBatch k c pc rb).rx = s.rx := rfl
@[simp] theorem State.returnBatch_outputs (k : Kind) (c : Long) (pc : Addr) (rb : Bool) :
    (s.returnBatch k c pc rb).outputs = s.outputs := rfl
@[simp] theorem State.returnBatch_arrivals (k : Kind) (c : Long) (pc : Addr) (rb : Bool) :
    (s.returnBatch k c pc rb).arrivals = s.arrivals := rfl
@[simp] theorem State.returnBatch_draws (k : Kind) (c : Long) (pc : Addr) (rb : Bool) :
    (s.returnBatch k c pc rb).draws = s.draws := rfl

/-! ### The next iteration (R163) -/

@[simp] theorem State.nextIteration_cfg (k : Kind) :
    (s.nextIteration k).cfg = s.cfg := rfl
@[simp] theorem State.nextIteration_inBuf (k : Kind) :
    (s.nextIteration k).inBuf = s.inBuf := rfl
@[simp] theorem State.nextIteration_inCur (k : Kind) :
    (s.nextIteration k).inCur = s.inCur := rfl
@[simp] theorem State.nextIteration_outBuf (k : Kind) :
    (s.nextIteration k).outBuf = s.outBuf := rfl
@[simp] theorem State.nextIteration_bufferMode (k : Kind) :
    (s.nextIteration k).bufferMode = s.bufferMode := rfl
@[simp] theorem State.nextIteration_interruptEnabled (k : Kind) :
    (s.nextIteration k).interruptEnabled = s.interruptEnabled := rfl
@[simp] theorem State.nextIteration_interruptPending (k : Kind) :
    (s.nextIteration k).interruptPending = s.interruptPending := rfl
@[simp] theorem State.nextIteration_echoEnabled (k : Kind) :
    (s.nextIteration k).echoEnabled = s.echoEnabled := rfl
@[simp] theorem State.nextIteration_cycleCounter (k : Kind) :
    (s.nextIteration k).cycleCounter = s.cycleCounter := rfl
@[simp] theorem State.nextIteration_rate (k : Kind) :
    (s.nextIteration k).rate = s.rate := rfl
@[simp] theorem State.nextIteration_window (k : Kind) :
    (s.nextIteration k).window = s.window := rfl
@[simp] theorem State.nextIteration_tickFlag (k : Kind) :
    (s.nextIteration k).tickFlag = s.tickFlag := rfl
@[simp] theorem State.nextIteration_breakRequested (k : Kind) :
    (s.nextIteration k).breakRequested = s.breakRequested := rfl
@[simp] theorem State.nextIteration_ctl (k : Kind) :
    (s.nextIteration k).ctl = .exec k (.batch false) := rfl
@[simp] theorem State.nextIteration_watchpoint (k : Kind) :
    (s.nextIteration k).watchpoint = s.watchpoint := rfl
@[simp] theorem State.nextIteration_termExec (k : Kind) :
    (s.nextIteration k).termExec = s.termExec := rfl
@[simp] theorem State.nextIteration_enginePC (k : Kind) :
    (s.nextIteration k).enginePC = s.enginePC := rfl
@[simp] theorem State.nextIteration_rebootRequested (k : Kind) :
    (s.nextIteration k).rebootRequested = s.rebootRequested := rfl
@[simp] theorem State.nextIteration_autorunPending (k : Kind) :
    (s.nextIteration k).autorunPending = s.autorunPending := rfl
@[simp] theorem State.nextIteration_clearPending (k : Kind) :
    (s.nextIteration k).clearPending = s.clearPending := rfl
@[simp] theorem State.nextIteration_rebooting (k : Kind) :
    (s.nextIteration k).rebooting = s.rebooting := rfl
@[simp] theorem State.nextIteration_hook (k : Kind) :
    (s.nextIteration k).hook = s.hook := rfl
@[simp] theorem State.nextIteration_rx (k : Kind) :
    (s.nextIteration k).rx = s.rx := rfl
@[simp] theorem State.nextIteration_outputs (k : Kind) :
    (s.nextIteration k).outputs = s.outputs := rfl
@[simp] theorem State.nextIteration_arrivals (k : Kind) :
    (s.nextIteration k).arrivals = s.arrivals := rfl
@[simp] theorem State.nextIteration_draws (k : Kind) :
    (s.nextIteration k).draws = s.draws := rfl

end Sys2Proof.Machine
end

