-- ==== Sys2Proof/Laws/Ops.lean ====
section
/-! SUPPORT. What each shared operation can do, said once. -/

namespace Sys2Proof.Machine

variable (s : State)

/-! ### The poll (R125, R127) -/

theorem State.load_nothing (later : List (List Byte)) : s.load [] later = { s with rx := later } :=
  rfl

theorem State.load_fits {l : List Byte} (later : List (List Byte)) (h : l ≠ [])
    (hl : l.length ≤ rxCap) :
    s.load l later =
      { s with
        inBuf := l
        inCur := 0
        rx := later
        interruptPending := s.interruptPending || s.interruptEnabled
        outputs := if s.interruptEnabled then s.outputs ++ [.irqPulse] else s.outputs } := by
  simp [State.load, h, hl, List.take_of_length_le hl]

theorem State.load_over {l : List Byte} (later : List (List Byte)) (h : rxCap < l.length) :
    s.load l later =
      { s with
        inBuf := l.take rxCap
        inCur := 0
        rx := l.drop rxCap :: later
        interruptPending := s.interruptPending || s.interruptEnabled
        outputs := if s.interruptEnabled then s.outputs ++ [.irqPulse] else s.outputs } := by
  have h0 : l ≠ [] := by rintro rfl; simp at h
  have h1 : ¬ l.length ≤ rxCap := by omega
  simp [State.load, h0, h1]

theorem State.pollAcia_unread (h : s.inBuf ≠ []) : s.pollAcia = s := by
  unfold State.pollAcia
  split <;> simp_all

theorem State.pollAcia_dry (h : s.rx = []) : s.pollAcia = s := by
  unfold State.pollAcia
  split <;> simp_all

theorem State.pollAcia_read {l : List Byte} {later : List (List Byte)} (h : s.inBuf = [])
    (hr : s.rx = l :: later) : s.pollAcia = s.load l later := by
  simp [State.pollAcia, h, hr]

/-- All a poll can do. -/
theorem State.pollAcia_cases :
    s.pollAcia = s ∨ ∃ l later, s.inBuf = [] ∧ s.rx = l :: later ∧ s.pollAcia = s.load l later := by
  cases hb : s.inBuf with
  | cons b rest => exact .inl (s.pollAcia_unread (by simp [hb]))
  | nil =>
    cases hr : s.rx with
    | nil => exact .inl (s.pollAcia_dry hr)
    | cons l later => exact .inr ⟨l, later, rfl, rfl, s.pollAcia_read hb hr⟩

/-- A poll touches the receive side only: its result in a state at another position of the controller
is the same. -/
theorem State.pollAcia_position (h : Option HookWord) (c : Ctl) :
    ({ s with hook := h, ctl := c } : State).pollAcia = { s.pollAcia with hook := h, ctl := c } := by
  have hl : ∀ l later, ({ s with hook := h, ctl := c } : State).load l later =
      { s.load l later with hook := h, ctl := c } := by
    intro l later
    unfold State.load
    split <;> rfl
  by_cases hb : s.inBuf = []
  case neg => rw [s.pollAcia_unread hb, ({ s with hook := h, ctl := c } : State).pollAcia_unread hb]
  by_cases hn : s.rx = []
  · rw [s.pollAcia_dry hn, ({ s with hook := h, ctl := c } : State).pollAcia_dry hn]
  · obtain ⟨l, later, hr⟩ := List.exists_cons_of_ne_nil hn
    rw [s.pollAcia_read hb hr, ({ s with hook := h, ctl := c } : State).pollAcia_read hb hr, hl]

/-- What a poll leaves alone (R125). -/
theorem State.pollAcia_frame :
    s.pollAcia =
      { s with
        inBuf := s.pollAcia.inBuf
        inCur := s.pollAcia.inCur
        rx := s.pollAcia.rx
        interruptPending := s.pollAcia.interruptPending
        outputs := s.pollAcia.outputs } := by
  rcases s.pollAcia_cases with h | ⟨l, later, h1, h2, h⟩
  · rw [h]
  · rw [h]
    unfold State.load
    split <;> rfl

/-! ### The command loop (R162) -/

theorem State.inCommandLoop_eq_true :
    s.inCommandLoop = true ↔ s.ctl = .idle ∧ s.rebooting = false := by
  simp [State.inCommandLoop]

theorem State.inCommandLoop_eq_false :
    s.inCommandLoop = false ↔ s.ctl ≠ .idle ∨ s.rebooting = true := by
  simp [State.inCommandLoop]
  tauto

/-- A command in the command loop is one iteration. -/
theorem State.command_taken (body : State → State) (h : s.inCommandLoop = true) :
    s.command body = (body s.beginIteration).endDispatch := if_pos h

/-- Elsewhere it is not accepted. -/
theorem State.command_busy (body : State → State) (h : s.inCommandLoop = false) :
    s.command body = s := by
  rw [State.command, h]
  rfl

/-- The end of a command that is over makes the clear. -/
theorem State.endDispatch_over (h : s.inCommandLoop = true) :
    s.endDispatch =
      { s with
        breakRequested := s.breakRequested && !decide (s.cfg.brkClearPoint = .afterDispatch) } := by
  simp [State.endDispatch, h]

/-- The end of the dispatch of a command that goes on leaves the clear to its exit. -/
theorem State.endDispatch_on (h : s.inCommandLoop = false) :
    s.endDispatch =
      { s with
        clearPending := s.clearPending || decide (s.cfg.brkClearPoint = .afterDispatch) } := by
  simp [State.endDispatch, h]

/-- All a line whose command is not presented does is its iteration's clear. -/
theorem State.rejectLine_taken (h : s.inCommandLoop = true) :
    s.rejectLine = { s with breakRequested := false } := by
  rw [State.rejectLine, s.command_taken _ h, s.beginIteration.endDispatch_over h]
  cases hc : s.cfg.brkClearPoint <;> simp [State.beginIteration, hc]

/-- A served strobe leaves every phase alone but the one that waits for it. -/
theorem Phase.strobed_of_waits_not (p : Phase) (w : HookWord) (hp : ∀ err, p ≠ .poll err) :
    p.strobed w = p := by
  unfold Phase.strobed
  split <;> simp_all

theorem State.startStep_zero : s.startStep 0 = s := rfl

theorem State.startStep_pos {n : Long} (h : n ≠ 0) : s.startStep n = s.startExec (.step n) :=
  if_neg h

/-! ### Events (R94, R145, R146, R179) -/

/-- All the events of a word can do. -/
theorem State.events_cases (b t r : Bool) :
    s.events b t r = s.setEventFlags b t ∨
    (s.ctl = .idle ∧ s.rebooting = false ∧ (r || (b || t) && s.rebootRequested) = true ∧
      s.events b t r = (s.setEventFlags b t).beginReboot) ∨
    (∃ k, s.ctl = .exec k .suspended ∧ (b || t) = true ∧
      s.events b t r = (s.setEventFlags b t).endSuspension k) := by
  cases hc : s.ctl with
  | idle =>
    cases hb : s.rebooting
    · cases hr : (r || (b || t) && s.rebootRequested)
      · exact .inl (by simp [State.events, hc, hb, hr])
      · exact .inr (.inl ⟨rfl, rfl, rfl, by simp [State.events, hc, hb, hr]⟩)
    · exact .inl (by simp [State.events, hc, hb])
  | exec k p =>
    cases p with
    | suspended =>
      cases hw : (b || t)
      · exact .inl (by simp [State.events, hc, hw])
      · exact .inr (.inr ⟨k, rfl, rfl, by simp [State.events, hc, hw]⟩)
    | _ => exact .inl (by simp [State.events, hc])

/-- Inside a reboot sequence an event word sets its flags and nothing else. -/
theorem State.events_rebooting (b t r : Bool) (hc : s.ctl = .idle) (h : s.rebooting = true) :
    s.events b t r = s.setEventFlags b t := by
  simp [State.events, hc, h]

/-! ### The phases (R141, R143, R163) -/

theorem State.countPhase_pos (k : Kind) {c : Long} (h : 0 < c.toInt) :
    s.countPhase k c =
      { s with cycleCounter := s.cycleCounter + c.toNat, ctl := .exec k (.throttle c) } := if_pos h

theorem State.countPhase_error (k : Kind) {c : Long} (h : c.toInt ≤ 0) :
    s.countPhase k c = { s with ctl := .exec k (.poll (some c)) } := if_neg (by omega)

theorem State.throttlePhase_unlimited (k : Kind) (c : Long) (h : s.rate = 0) :
    s.throttlePhase k c = { s with ctl := .exec k (.poll none) } := if_pos h

theorem State.throttlePhase_under (k : Kind) (c : Long) (h : s.rate ≠ 0)
    (hw : s.window + c.toNat ≤ s.rate.toNat) :
    s.throttlePhase k c =
      { s with window := s.window + c.toNat, ctl := .exec k (.poll none) } := by
  rw [State.throttlePhase, if_neg h, if_neg (Nat.not_lt.mpr hw)]

theorem State.throttlePhase_over (k : Kind) (c : Long) (h : s.rate ≠ 0)
    (hw : s.rate.toNat < s.window + c.toNat) :
    s.throttlePhase k c =
      { s with window := s.window + c.toNat, ctl := .exec k .suspended } := by
  rw [State.throttlePhase, if_neg h, if_pos hw]

/-- All `CHECK` can do (R213). -/
theorem State.checkPhase_cases (k : Kind) (err : Option Long) :
    (∃ code, err = some code ∧ s.checkPhase k err = s.takeEngineError code) ∨
    (err = none ∧ ∃ r, s.checkPhase k err = s.leaveExec r) ∨
    (err = none ∧ k = .run ∧ s.checkPhase k err = s.nextIteration k) ∨
    (err = none ∧ (∃ a, k = .runUntil a) ∧ s.checkPhase k err = s.nextIteration k) ∨
    (err = none ∧ ∃ n, k = .step n ∧ n ≠ 1 ∧
      s.checkPhase k err = s.nextIteration (.step (n - 1))) := by
  cases err with
  | some code => exact .inl ⟨code, rfl, rfl⟩
  | none =>
    refine .inr ?_
    cases k with
    | run =>
      cases hb : s.breakRequested
      · exact .inr (.inl ⟨rfl, rfl, by simp [State.checkPhase, hb]⟩)
      · exact .inl ⟨rfl, .brk, by simp [State.checkPhase, hb]⟩
    | runUntil a =>
      cases hb : s.breakRequested
      · by_cases hp : s.enginePC = a
        · exact .inl ⟨rfl, .target, by simp [State.checkPhase, hb, hp]⟩
        · exact .inr (.inr (.inl ⟨rfl, ⟨a, rfl⟩, by simp [State.checkPhase, hb, hp]⟩))
      · exact .inl ⟨rfl, .brk, by simp [State.checkPhase, hb]⟩
    | step n =>
      by_cases hn : n = 1
      · exact .inl ⟨rfl, .brk, by simp [State.checkPhase, hn]⟩
      · exact .inr (.inr (.inr ⟨rfl, n, rfl, hn, if_neg hn⟩))

/-! ### The registers' addresses (R62, R81) -/

theorem aciaAddr_high (base : Addr) (a0 : Bool) :
    (aciaAddr base a0).extractLsb' 1 15 = base.extractLsb' 1 15 := by
  ext i hi
  simp [aciaAddr]
  grind

theorem aciaAddr_low (base : Addr) (a0 : Bool) : (aciaAddr base a0).getLsbD 0 = a0 := by
  unfold aciaAddr
  grind

/-- The address decode of a register's own address gives the bus word that selects it. -/
theorem busWordAt_aciaAddr (base : Addr) (rnw a0 : Bool) (d : Byte) :
    busWordAt base rnw (aciaAddr base a0) d = some (busWord rnw a0 d) := by
  rw [busWordAt, if_pos (aciaAddr_high base a0), aciaAddr_low]

/-! ### The status byte (R85, R111) -/

theorem statusByte_irq (irq : Bool) (rsvd : BitVec 6) (rda : Bool) :
    (statusByte irq rsvd rda).getLsbD 7 = irq := by
  unfold statusByte
  grind

theorem statusByte_rda (irq : Bool) (rsvd : BitVec 6) (rda : Bool) :
    (statusByte irq rsvd rda).getLsbD 0 = rda := by
  unfold statusByte
  grind

/-! ### The transmit stream (R42) -/

theorem State.tx_append (o : Output) :
    (s.outputs ++ [o]).flatMap Output.txBytes = s.tx ++ o.txBytes := by
  simp [State.tx]

end Sys2Proof.Machine
end

