-- ==== Sys2Proof/Laws/PerInstr.lean ====
section
/-! SUPPORT. Per-operation laws: the word the encoder writes selects the operation's row of
spec/opcode_table.json by the row's mask and match. -/

namespace Sys2Proof.Laws

/-- A `BUS` word selects R82's row. -/
def busSelects (pattern mask : BusWord) (w : PortWord) : Prop :=
  match w with
  | .bus b => b &&& mask = pattern
  | _ => False

/-- A `CMD` word selects R91's row. -/
def cmdSelects (pattern mask : CmdWord) (w : PortWord) : Prop :=
  match w with
  | .cmd b => b &&& mask = pattern
  | _ => False

/-- A line of an `EVT` word is 1 (R94). -/
def evtSelects (line : Nat) (w : PortWord) : Prop :=
  match w with
  | .evt b => b.getLsbD line = true
  | _ => False

/-- A `HOOK` word is the one-hot one of R95. -/
def hookSelects (pattern : HookWord) (w : PortWord) : Prop :=
  match w with
  | .hook b => b = pattern
  | _ => False

theorem busWord_select (r a : Bool) (d : Byte) :
    busWord r a d &&& 0x300#10 = busWord r a 0 := by
  have m : (0x300#10 : BusWord) = busWord true true 0 := by decide
  rw [m, busWord_and]
  simp

/-- With `ARG` masked out, what is left is the verb and `HAS_ARG`. -/
theorem cmdWord_select (v : Byte) (h : Bool) (a : Long) :
    cmdWord v h a &&& 0x1FF00000000#41 = cmdWord v h 0 := by
  have m : (0x1FF00000000#41 : CmdWord) = cmdWord (BitVec.allOnes 8) true 0 := by decide
  rw [m, cmdWord_and, BitVec.and_allOnes]
  simp

/-- With `HAS_ARG` masked out too, what is left is the verb. -/
theorem cmdWord_selectVerb (v : Byte) (h : Bool) (a : Long) :
    cmdWord v h a &&& 0x1FE00000000#41 = cmdWord v false 0 := by
  have m : (0x1FE00000000#41 : CmdWord) = cmdWord (BitVec.allOnes 8) false 0 := by decide
  rw [m, cmdWord_and, BitVec.and_allOnes]
  simp

/-- The row of spec/opcode_table.json that an operation's word selects. -/
def RowMatch.Statement (i : Instr) : Prop :=
  match i with
  | .aciaSr _ => busSelects 0x200#10 0x300#10 (encode i)
  | .aciaCw _ => busSelects 0x000#10 0x300#10 (encode i)
  | .aciaDr _ => busSelects 0x300#10 0x300#10 (encode i)
  | .aciaDw _ => busSelects 0x100#10 0x300#10 (encode i)
  | .run _ => cmdSelects 0x0CE00000000#41 0x1FF00000000#41 (encode i)
  | .goAt _ _ => cmdSelects 0x0CF00000000#41 0x1FF00000000#41 (encode i)
  | .runUntil _ _ => cmdSelects 0x0CD00000000#41 0x1FF00000000#41 (encode i)
  | .step1 _ => cmdSelects 0x0DC00000000#41 0x1FF00000000#41 (encode i)
  | .stepN _ => cmdSelects 0x0DD00000000#41 0x1FF00000000#41 (encode i)
  | .setPc _ _ => cmdSelects 0x0E100000000#41 0x1FF00000000#41 (encode i)
  | .wpSet _ _ => cmdSelects 0x0EF00000000#41 0x1FF00000000#41 (encode i)
  | .reboot _ _ => cmdSelects 0x0F000000000#41 0x1FE00000000#41 (encode i)
  | .ctrRead _ => cmdSelects 0x0F200000000#41 0x1FF00000000#41 (encode i)
  | .ctrClr => cmdSelects 0x0F300000000#41 0x1FFFFFFFFFF#41 (encode i)
  | .cmdUndef _ => cmdSelects 0x00000000000#41 0x00000000000#41 (encode i)
  | .brk _ _ => evtSelects 0 (encode i)
  | .tick _ _ => evtSelects 1 (encode i)
  | .rebootReq _ _ => evtSelects 2 (encode i)
  | .aciaPoll => hookSelects 0b01#2 (encode i)
  | .aciaReset => hookSelects 0b10#2 (encode i)

theorem RowMatch.aciaSr (d : Byte) : RowMatch.Statement (.aciaSr d) :=
  (busWord_select true false d).trans (by decide)

theorem RowMatch.aciaCw (v : Byte) : RowMatch.Statement (.aciaCw v) :=
  (busWord_select false false v).trans (by decide)

theorem RowMatch.aciaDr (d : Byte) : RowMatch.Statement (.aciaDr d) :=
  (busWord_select true true d).trans (by decide)

theorem RowMatch.aciaDw (v : Byte) : RowMatch.Statement (.aciaDw v) :=
  (busWord_select false true v).trans (by decide)

theorem RowMatch.run (arg : Long) : RowMatch.Statement (.run arg) :=
  (cmdWord_select 0x67#8 false arg).trans (by decide)

theorem RowMatch.goAt (hi : BitVec 16) (addr : Addr) : RowMatch.Statement (.goAt hi addr) :=
  (cmdWord_select 0x67#8 true (hi ++ addr)).trans (by decide)

theorem RowMatch.runUntil (hi : BitVec 16) (target : Addr) :
    RowMatch.Statement (.runUntil hi target) :=
  (cmdWord_select 0x66#8 true (hi ++ target)).trans (by decide)

theorem RowMatch.step1 (arg : Long) : RowMatch.Statement (.step1 arg) :=
  (cmdWord_select 0x6E#8 false arg).trans (by decide)

theorem RowMatch.stepN (count : Long) : RowMatch.Statement (.stepN count) :=
  (cmdWord_select 0x6E#8 true count).trans (by decide)

theorem RowMatch.setPc (hi : BitVec 16) (addr : Addr) : RowMatch.Statement (.setPc hi addr) :=
  (cmdWord_select 0x70#8 true (hi ++ addr)).trans (by decide)

theorem RowMatch.wpSet (hi : BitVec 16) (addr : Addr) : RowMatch.Statement (.wpSet hi addr) :=
  (cmdWord_select 0x77#8 true (hi ++ addr)).trans (by decide)

theorem RowMatch.reboot (hasArg : Bool) (arg : Long) :
    RowMatch.Statement (.reboot hasArg arg) :=
  (cmdWord_selectVerb 0x78#8 hasArg arg).trans (by decide)

theorem RowMatch.ctrRead (arg : Long) : RowMatch.Statement (.ctrRead arg) :=
  (cmdWord_select 0x79#8 false arg).trans (by decide)

theorem RowMatch.ctrClr : RowMatch.Statement .ctrClr := by
  show cmdWord 0x79#8 true 0 &&& 0x1FFFFFFFFFF#41 = 0x0F300000000#41
  decide

theorem RowMatch.cmdUndef (w : CmdWord) : RowMatch.Statement (.cmdUndef w) := by
  show w &&& 0x00000000000#41 = 0x00000000000#41
  simp

theorem RowMatch.brk (tick rebootReq : Bool) : RowMatch.Statement (.brk tick rebootReq) := by
  cases tick <;> cases rebootReq <;> rfl

theorem RowMatch.tick (brk rebootReq : Bool) : RowMatch.Statement (.tick brk rebootReq) := by
  cases brk <;> cases rebootReq <;> rfl

theorem RowMatch.rebootReq (brk tick : Bool) : RowMatch.Statement (.rebootReq brk tick) := by
  cases brk <;> cases tick <;> rfl

theorem RowMatch.aciaPoll : RowMatch.Statement .aciaPoll := rfl

theorem RowMatch.aciaReset : RowMatch.Statement .aciaReset := rfl

end Sys2Proof.Laws
end

