-- ==== Sys2Proof/Laws/Step.lean ====
section
/-! SUPPORT. What one step can do: the next move is an operation, another agent's move, or the
controller's turn. Every claim about `step` starts here. -/

namespace Sys2Proof.Machine

/-- The three ways a step gives a next state. -/
theorem step_cases {s t : State} (h : step s = .next t) :
    (∃ i u, fetch s = .run i u ∧ exec i u = .next t) ∨
    fetch s = .done t ∨
    (∃ u, fetch s = .turn u ∧ t = u.turn) := by
  unfold step at h
  split at h
  · rename_i i u hf
    exact .inl ⟨i, u, hf, h⟩
  · rename_i u hf
    cases h
    exact .inr (.inl hf)
  · rename_i u hf
    cases h
    exact .inr (.inr ⟨u, hf, rfl⟩)
  · cases h

theorem step_run {s u : State} {i : Instr} (h : fetch s = .run i u) : step s = exec i u := by
  simp [step, h]

theorem step_done {s t : State} (h : fetch s = .done t) : step s = .next t := by
  simp [step, h]

theorem step_turn {s u : State} (h : fetch s = .turn u) : step s = .next u.turn := by
  simp [step, h]

theorem fetch_hook {s : State} {w : HookWord} (h : s.hook = some w) :
    fetch s =
      match decodeHook w with
      | .ok i => .run i (s.hookServed w)
      | .error .noEvent => .done { s with hook := none }
      | .error .noStrobe => .done { s with hook := none }
      | .error .bothStrobes => .stop .bothHookStrobes := by
  cases hd : decodeHook w with
  | ok i => simp [fetch, h, hd]
  | error e => cases e <;> simp [fetch, h, hd]

theorem fetch_arrival {s : State} {a : Arrival} {later : List Arrival} (h : s.hook = none)
    (ha : s.arrivals = a :: later) : fetch s = s.present { s with arrivals := later } a := by
  simp [fetch, h, ha]

theorem fetch_nobody {s : State} (h : s.hook = none) (ha : s.arrivals = []) : fetch s = .turn s := by
  simp [fetch, h, ha]

/-- An operation is executed at the state itself, with its word taken off its interface. -/
theorem fetch_run_cases {s u : State} {i : Instr} (h : fetch s = .run i u) :
    (∃ w, s.hook = some w ∧ decodeHook w = .ok i ∧ u = s.hookServed w) ∨
    (s.hook = none ∧ ∃ a later, s.arrivals = a :: later ∧ u = { s with arrivals := later } ∧
      ((∃ w, a = .evt w ∧ decodeEvt w = .ok i) ∨
       (∃ w, i = decodeBus w ∧ ∃ m r ad d, a = .access m r ad d ∧
          busWordAt s.cfg.aciaBase r ad d = some w ∧
          (m = .engine ∧ s.insideBatch.isSome = true ∨
            m = .console ∧ s.atPrompt = true ∧ s.cfg.debugAccessRouted = true)) ∨
       (s.atPrompt = true ∧ ∃ w, i = decodeCmd w ∧
          (a = .cmd w ∨ ∃ text, a = .line text ∧ lineWord text = some w)))) := by
  rcases Option.eq_none_or_eq_some s.hook with hk | ⟨w, hk⟩
  case inr =>
    rw [fetch_hook hk] at h
    left
    split at h <;> simp_all
  case inl =>
    right
    refine ⟨hk, ?_⟩
    cases ha : s.arrivals with
    | nil => rw [fetch_nobody hk ha] at h; cases h
    | cons a later =>
      rw [fetch_arrival hk ha] at h
      refine ⟨a, later, rfl, ?_⟩
      cases a with
      | evt w =>
        simp only [State.present] at h
        split at h <;> simp_all
      | access m r ad d =>
        cases m with
        | engine =>
          simp only [State.present, State.presentAccess] at h
          split at h
          · split at h
            · simp only [Move.run.injEq] at h
              refine ⟨h.2.symm, .inr (.inl ?_)⟩
              refine ⟨_, h.1.symm, _, _, _, _, rfl, ?_, ?_⟩
              · assumption
              · simp_all
            · cases h
          · cases h
        | console =>
          simp only [State.present, State.presentAccess] at h
          split at h
          · split at h
            · split at h
              · simp only [Move.run.injEq] at h
                refine ⟨h.2.symm, .inr (.inl ?_)⟩
                refine ⟨_, h.1.symm, _, _, _, _, rfl, ?_, ?_⟩
                · assumption
                · simp_all
              · cases h
            · cases h
          · cases h
      | cmd w =>
        simp only [State.present] at h
        split at h
        · simp only [Move.run.injEq] at h
          exact ⟨h.2.symm, .inr (.inr ⟨by assumption, w, h.1.symm, .inl rfl⟩)⟩
        · cases h
      | line text =>
        simp only [State.present] at h
        split at h
        · split at h
          · simp only [Move.run.injEq] at h
            exact ⟨h.2.symm, .inr (.inr ⟨by assumption, _, h.1.symm, .inr ⟨text, rfl, by assumption⟩⟩)⟩
          · cases h
        · cases h
      | batchReturn c pc rb =>
        simp only [State.present] at h
        split at h <;> cases h
      | rx l => cases h
      | consoleRead =>
        simp only [State.present] at h
        split at h <;> cases h
      | quiet => cases h

/-- The controller's turn comes at the state itself, or at the state with a spent arrival gone. -/
theorem fetch_turn_cases {s u : State} (h : fetch s = .turn u) :
    s.hook = none ∧ (u = s ∨ ∃ a later, s.arrivals = a :: later ∧ u = { s with arrivals := later } ∧
      (a = .quiet ∨ ∃ w e, a = .evt w ∧ decodeEvt w = .error e)) := by
  rcases Option.eq_none_or_eq_some s.hook with hk | ⟨w, hk⟩
  case inr =>
    rw [fetch_hook hk] at h
    split at h <;> cases h
  case inl =>
    refine ⟨hk, ?_⟩
    cases ha : s.arrivals with
    | nil => rw [fetch_nobody hk ha] at h; cases h; exact .inl rfl
    | cons a later =>
      rw [fetch_arrival hk ha] at h
      cases a with
      | evt w =>
        simp only [State.present] at h
        split at h
        · cases h
        · cases h
          exact .inr ⟨_, _, rfl, rfl, .inr ⟨w, _, rfl, by assumption⟩⟩
      | access m r ad d =>
        cases m <;> simp only [State.present, State.presentAccess] at h <;>
          repeat' (split at h)
        all_goals first
          | (cases h; exact .inl rfl)
          | cases h
      | cmd w =>
        simp only [State.present] at h
        split at h <;> cases h
        exact .inl rfl
      | line text =>
        simp only [State.present] at h
        split at h
        · split at h <;> cases h
        · cases h
          exact .inl rfl
      | batchReturn c pc rb =>
        simp only [State.present] at h
        split at h <;> cases h
        exact .inl rfl
      | rx l => cases h
      | consoleRead =>
        simp only [State.present] at h
        split at h <;> cases h
        exact .inl rfl
      | quiet =>
        cases h
        exact .inr ⟨_, _, rfl, rfl, .inl rfl⟩

/-- Another agent's move touches only what that agent owns: the receive stream, or, when a batch
returns, the engine's PC and reboot flag. A line whose command is not presented makes its iteration's
clear. -/
theorem fetch_done_cases {s t : State} (h : fetch s = .done t) :
    (∃ w, s.hook = some w ∧ t = { s with hook := none }) ∨
    (s.hook = none ∧ ∃ a later, s.arrivals = a :: later ∧
      (t = { s with arrivals := later } ∨
       (∃ l, a = .rx l ∧ t = { s with arrivals := later, rx := s.rx ++ [l] }) ∨
       (a = .consoleRead ∧ s.atPrompt = true ∧
          t = { s with arrivals := later, rx := s.rx.drop 1 }) ∨
       (∃ k c pc rb, a = .batchReturn c pc rb ∧ s.insideBatch = some k ∧
          t = ({ s with arrivals := later } : State).returnBatch k c pc rb) ∨
       (∃ text, a = .line text ∧ s.atPrompt = true ∧ lineWord text = none ∧
          t = { s with arrivals := later, breakRequested := false }))) := by
  rcases Option.eq_none_or_eq_some s.hook with hk | ⟨w, hk⟩
  case inr =>
    rw [fetch_hook hk] at h
    left
    split at h <;> simp_all
  case inl =>
    right
    refine ⟨hk, ?_⟩
    cases ha : s.arrivals with
    | nil => rw [fetch_nobody hk ha] at h; cases h
    | cons a later =>
      rw [fetch_arrival hk ha] at h
      refine ⟨a, later, rfl, ?_⟩
      cases a with
      | evt w =>
        simp only [State.present] at h
        split at h <;> cases h
      | access m r ad d =>
        cases m <;> simp only [State.present, State.presentAccess] at h <;>
          repeat' (split at h)
        all_goals first
          | (cases h; exact .inl rfl)
          | cases h
      | cmd w =>
        simp only [State.present] at h
        split at h <;> cases h
      | line text =>
        simp only [State.present] at h
        split at h
        · split at h <;> cases h
          have hi : s.inCommandLoop = true := by simp_all [State.atPrompt]
          exact .inr (.inr (.inr (.inr ⟨text, rfl, by assumption, by assumption,
            ({ s with arrivals := later } : State).rejectLine_taken hi⟩)))
        · cases h
      | batchReturn c pc rb =>
        simp only [State.present] at h
        split at h
        · rename_i k hi
          cases h
          exact .inr (.inr (.inr (.inl ⟨k, c, pc, rb, rfl, hi, rfl⟩)))
        · cases h
      | rx l =>
        cases h
        exact .inr (.inl ⟨l, rfl, rfl⟩)
      | consoleRead =>
        simp only [State.present] at h
        split at h
        · cases h
          exact .inr (.inr (.inl ⟨rfl, by assumption, rfl⟩))
        · cases h
      | quiet => cases h

/-- The controller's turn in a reboot sequence is the rest of that sequence. -/
theorem State.turn_rebooting {s : State} (hc : s.ctl = .idle) (h : s.rebooting = true) :
    s.turn = s.finishReboot := by
  simp [State.turn, hc, h]

theorem insideBatch_eq_some {s : State} {k : Kind} :
    s.insideBatch = some k ↔ s.ctl = .exec k (.batch true) := by
  unfold State.insideBatch
  split <;> simp_all

theorem atPrompt_eq_true {s : State} :
    s.atPrompt = true ↔ s.ctl = .idle ∧ s.rebooting = false ∧ s.autorunPending = false := by
  simp [State.atPrompt, State.inCommandLoop, and_assoc]

theorem steps_succ {s t : State} (n : Nat) (h : step s = .next t) : steps (n + 1) s = steps n t := by
  simp [steps, h]

theorem steps_add {s t : State} (m n : Nat) (h : steps m s = .next t) :
    steps (m + n) s = steps n t := by
  induction m generalizing s with
  | zero => cases h; rw [Nat.zero_add]
  | succ m ih =>
    rw [steps] at h
    split at h
    · rename_i u hu
      rw [Nat.add_right_comm, steps_succ _ hu, ih h]
    · cases h
    · cases h

end Sys2Proof.Machine
end

