-- ==== Sys2Proof/Tests/Slice0.lean ====
section
/-! SUPPORT. Tests of the model against spec/95_test_vectors.md and the worked values of the rules,
and a witness for the hypotheses of each statement. -/

namespace Sys2Proof.Tests

open Sys2Proof Sys2Proof.Machine

/-- A field of the next state, if there is one. -/
def got {α : Type} (o : Host.Outcome State Fault Refusal) (f : State → α) : Option α :=
  match o with
  | .next s => some (f s)
  | .fault _ => none
  | .refused _ => none

/-- The power-on state without the automatic `RUN`: the prompt of the vectors. -/
def prompt : State := State.powerOn Params.default 0 false

/-- An ACIA state in the notation of spec/95_test_vectors.md. -/
def acia (inB outB : List Byte) (m : BufferMode) (ie ip echo : Bool) : State :=
  { prompt with
    inBuf := inB
    outBuf := outB
    bufferMode := m
    interruptEnabled := ie
    interruptPending := ip
    echoEnabled := echo }

/-- The tuple of that notation. -/
def tuple (s : State) : List Byte × List Byte × BufferMode × Bool × Bool × Bool :=
  (s.inBuf, s.outBuf, s.bufferMode, s.interruptEnabled, s.interruptPending, s.echoEnabled)

/-- The prompt's state with a `Run` in a phase. -/
def inPhase (p : Phase) : State := { prompt with termExec := true, ctl := .exec .run p }

/-! ### Well-formedness refuses -/

theorem smoke_goAt_high : (Instr.goAt 1 0).wellFormed = false := by decide
theorem smoke_runUntil_high : (Instr.runUntil 1 0).wellFormed = false := by decide
theorem smoke_setPc_high : (Instr.setPc 1 0).wellFormed = false := by decide
theorem smoke_wpSet_high : (Instr.wpSet 0x8000 0).wellFormed = false := by decide
/-- A word of an earlier row is no `CMD_UNDEF` (R91): `y 0`. -/
theorem smoke_cmdUndef_matched : (Instr.cmdUndef 0x0F300000000#41).wellFormed = false := by decide
theorem smoke_tick_with_break : (Instr.tick true false).wellFormed = false := by decide
theorem smoke_rebootReq_with_break : (Instr.rebootReq true false).wellFormed = false := by decide
theorem smoke_rebootReq_with_tick : (Instr.rebootReq false true).wellFormed = false := by decide

/-! ### Decoding: words written out from R81, R82, R88, R89, R91, R94, R95 -/

/-- `RnW = 1, A0 = 0` (R82). -/
theorem test_decode_aciaSr : decode (.bus 0b10_00000000#10) = .ok (.aciaSr 0x00#8) := by decide
/-- `RnW = 0, A0 = 0`, `D = 0xFF`. -/
theorem test_decode_aciaCw : decode (.bus 0b00_11111111#10) = .ok (.aciaCw 0xFF#8) := by decide
theorem test_decode_aciaDr : decode (.bus 0b11_00000000#10) = .ok (.aciaDr 0x00#8) := by decide
theorem test_decode_aciaDw : decode (.bus 0b01_11111111#10) = .ok (.aciaDw 0xFF#8) := by decide
/-- `VERB = 01100111` (g), `HAS_ARG = 0`, `ARG` ignored. -/
theorem test_decode_run :
    decode (.cmd 0b01100111_0_00000000000000001011111011101111#41) = .ok (.run 0xBEEF#32) := by
  decide
theorem test_decode_goAt :
    decode (.cmd 0b01100111_1_00000000000000000000000100000000#41) = .ok (.goAt 0 0x0100#16) := by
  decide
/-- `VERB = 01100110` (f). -/
theorem test_decode_runUntil :
    decode (.cmd 0b01100110_1_00000000000000001111111111111111#41) =
      .ok (.runUntil 0 0xFFFF#16) := by decide
/-- `VERB = 01101110` (n). -/
theorem test_decode_step1 :
    decode (.cmd 0b01101110_0_00000000000000000000000000000000#41) = .ok (.step1 0) := by decide
theorem test_decode_stepN :
    decode (.cmd 0b01101110_1_00000000000000000000000000001010#41) = .ok (.stepN 10) := by decide
/-- `VERB = 01110000` (p). -/
theorem test_decode_setPc :
    decode (.cmd 0b01110000_1_00000000000000001000000000000000#41) = .ok (.setPc 0 0x8000#16) := by
  decide
/-- `VERB = 01110111` (w). -/
theorem test_decode_wpSet :
    decode (.cmd 0b01110111_1_00000000000000000001001000110100#41) = .ok (.wpSet 0 0x1234#16) := by
  decide
/-- `VERB = 01111000` (x): `HAS_ARG` and `ARG` ignored. -/
theorem test_decode_reboot :
    decode (.cmd 0b01111000_1_00000000000000000000000000000111#41) = .ok (.reboot true 7) := by
  decide
/-- `VERB = 01111001` (y). -/
theorem test_decode_ctrRead :
    decode (.cmd 0b01111001_0_00000000000000000000000000000000#41) = .ok (.ctrRead 0) := by decide
theorem test_decode_ctrClr :
    decode (.cmd 0b01111001_1_00000000000000000000000000000000#41) = .ok .ctrClr := by decide
/-- `VERB = 01110001` (q): not a verb of the block. -/
theorem test_decode_cmdUndef :
    decode (.cmd 0x0E200000000#41) = .ok (.cmdUndef 0x0E200000000#41) := by decide
/-- `p` without an address. -/
theorem test_decode_setPc_without_address :
    decode (.cmd 0x0E000000000#41) = .ok (.cmdUndef 0x0E000000000#41) := by decide
theorem test_decode_brk : decode (.evt 0b001#3) = .ok (.brk false false) := by decide
theorem test_decode_tick : decode (.evt 0b010#3) = .ok (.tick false false) := by decide
theorem test_decode_rebootReq : decode (.evt 0b100#3) = .ok (.rebootReq false false) := by decide
theorem test_decode_aciaPoll : decode (.hook 0b01#2) = .ok .aciaPoll := by decide
theorem test_decode_aciaReset : decode (.hook 0b10#2) = .ok .aciaReset := by decide
/-- "The controller never asserts both in one word" (R95). -/
theorem test_decode_both_strobes : decode (.hook 0b11#2) = .error .bothStrobes := by rfl
/-- The table's `ACIA_CW` row as it stands in spec/opcode_table.json: width 10, match 0x000. -/
theorem test_table_aciaCw : decodeTableWord 10 0x000 = some (.aciaCw 0) := by decide
/-- The width of `CMD` rounded up to whole bytes. -/
theorem test_table_stepN : decodeTableWord 48 0x0DD00000002 = some (.stepN 2) := by decide

/-! ### The bus operations -/

/-- A3b: pending is returned in bit 7 and cleared. -/
theorem test_statusRead_clears :
    got (exec (.aciaSr 0) (acia [0x41#8, 0x42#8] [] .line true true false)) tuple =
      some ([0x41#8, 0x42#8], [], .line, true, false, false) := by decide
/-- A3b, A1: bits 7 and 0 are 1 and 1 of 0x81, then 0 and 0 of 0x00, whatever bits 6:1 are. -/
theorem test_statusRead_bits (r : BitVec 6) :
    (statusByte true r true).getLsbD 7 = true ∧ (statusByte true r true).getLsbD 0 = true ∧
      (statusByte false r false).getLsbD 7 = false ∧
      (statusByte false r false).getLsbD 0 = false := by
  simp [-BitVec.getLsbD_eq_getElem, statusByte_irq, statusByte_rda]
/-- A7c: `v = 0x06` flushes, selects `Raw`, and tells the terminal after the flush. -/
theorem test_controlWrite_flush_raw :
    got (exec (.aciaCw 0x06#8) (acia [] [0x3E#8] .line false false false))
      (fun t => (t.bufferMode, t.outBuf, t.outputs)) =
      some (.raw, [], [.txEmit [0x3E#8], .termApply .raw false]) := by decide
/-- A22: repeating the mode and the enable still changes echo. -/
theorem test_controlWrite_echo_off :
    got (exec (.aciaCw 0x82#8) (acia [] [] .raw true false true)) tuple =
      some ([], [], .raw, true, false, false) := by decide
/-- A3d: the head of the queue is popped. -/
theorem test_dataRead_pops :
    got (exec (.aciaDr 0) (acia [0x41#8, 0x42#8] [] .line true false false))
      (fun t => (t.inBuf, t.outputs)) = some ([0x42#8], [.busResult 0x41#8]) := by decide
/-- A3h: an empty queue reads 0x00. -/
theorem test_dataRead_empty :
    got (exec (.aciaDr 0xFF#8) prompt) (fun t => (t.inBuf, t.inCur, t.outputs)) =
      some ([], 0, [.busResult 0x00#8]) := by decide
/-- A4c: a line terminator flushes, terminator included. -/
theorem test_dataWrite_terminator :
    got (exec (.aciaDw 0x0A#8) (acia [] [0x48#8, 0x69#8] .line false false false))
      (fun t => (t.outBuf, t.tx)) = some ([], [0x48#8, 0x69#8, 0x0A#8]) := by decide
/-- A17b: the byte held from `Line` leaves with the first `Raw` write. -/
theorem test_dataWrite_raw :
    got (exec (.aciaDw 0x42#8) (acia [] [0x41#8] .raw false false false))
      (fun t => (t.outBuf, t.outputs)) = some ([], [.txEmit [0x41#8, 0x42#8]]) := by decide

/-! ### The hooks -/

/-- A3a: a batch is loaded, pending set, one pulse. -/
theorem test_poll_loads :
    got (exec .aciaPoll
        { acia [] [] .line true false false with rx := [[0x41#8, 0x42#8], [0x43#8]] })
      (fun t => (t.inBuf, t.interruptPending, t.pulses, t.rx)) =
      some ([0x41#8, 0x42#8], true, 1, [[0x43#8]]) := by decide
/-- A9: with unread bytes the receive stream is not touched. -/
theorem test_poll_unread :
    got (exec .aciaPoll { acia [0x58#8] [] .line true false false with rx := [[0x41#8]] })
      (fun t => (t.inBuf, t.interruptPending, t.rx)) = some ([0x58#8], false, [[0x41#8]]) := by
  decide
/-- A12: everything back to `A0`, nothing sent. -/
theorem test_resetHook :
    got (exec .aciaReset (acia [0x43#8] [0x41#8, 0x42#8] .raw true true true))
      (fun t => (tuple t, t.outputs)) = some (([], [], .line, false, false, false), []) := by
  rfl

/-! ### The commands -/

/-- S3, first step: `g` enters execution mode. -/
theorem test_run_starts :
    got (exec (.run 0) prompt) (fun t => (t.ctl, t.termExec)) =
      some (.exec .run (.batch false), true) := by decide
/-- S13b: with `after_dispatch` the flag still stands when the `RUN` begins. -/
theorem test_run_after_dispatch :
    got (exec (.run 0)
        { prompt with
          cfg := { Params.default with brkClearPoint := .afterDispatch }
          breakRequested := true })
      (fun t => (t.breakRequested, t.clearPending)) = some (true, true) := by decide
/-- S11c: `g 100`. -/
theorem test_goAt_sets_pc :
    got (exec (.goAt 0 0x0100#16) prompt) (fun t => (t.enginePC, t.ctl)) =
      some (0x0100#16, .exec .run (.batch false)) := by decide
/-- S5: `f 120`. -/
theorem test_runUntil_starts :
    got (exec (.runUntil 0 0x0120#16) prompt) (·.ctl) =
      some (.exec (.runUntil 0x0120#16) (.batch false)) := by decide
/-- S16: `n`. -/
theorem test_step1_starts :
    got (exec (.step1 0) prompt) (·.ctl) = some (.exec (.step 1) (.batch false)) := by decide
/-- S1: `n 3`. -/
theorem test_stepN_starts :
    got (exec (.stepN 3) prompt) (·.ctl) = some (.exec (.step 3) (.batch false)) := by decide
/-- S8: `n 0` does nothing but the clear. -/
theorem test_stepN_zero :
    got (exec (.stepN 0) { prompt with breakRequested := true })
      (fun t => (t.ctl, t.termExec, t.breakRequested)) = some (.idle, false, false) := by decide
/-- S11b: `p 8000`. -/
theorem test_setPc :
    got (exec (.setPc 0 0x8000#16) prompt) (fun t => (t.enginePC, t.ctl)) =
      some (0x8000#16, .idle) := by decide
/-- S11a: `w 1234`. -/
theorem test_wpSet :
    got (exec (.wpSet 0 0x1234#16) prompt) (fun t => (t.watchpoint, t.ctl)) =
      some (some 0x1234#16, .idle) := by decide
/-- P4, steps 1 and 2: the reboot command strobes `ACIA_RESET`, still in `IDLE`. -/
theorem test_reboot_strobes :
    got (exec (.reboot true 7) prompt) (fun t => (t.hook, t.ctl, t.termExec, t.outputs)) =
      some (some 0b10#2, .idle, false, []) := by decide

/-- P4's state, with a reboot begun and `hook` on the strobe lines. -/
def rebooting (hook : Option HookWord) : State :=
  { acia [0x78#8] [0x3E#8, 0x20#8] .line true true true with
    rebooting := true
    hook := hook
    cycleCounter := 500
    window := 300
    watchpoint := some 0x1234#16
    rebootRequested := true }

/-- P4, step 2: the ACIA is `A0`, nothing is sent, and the block is still in `IDLE`. -/
theorem test_reboot_strobe_served :
    got (step (rebooting (some 0b10#2)))
      (fun t => (tuple t, t.tx, t.cycleCounter, t.window, t.watchpoint, t.ctl, t.termExec)) =
      some (([], [], .line, false, false, false), [], 500, 300, some 0x1234#16, .idle, false) := by
  rfl
/-- R11: a BREAK after the strobe has been served is set inside the sequence. -/
theorem test_reboot_break_lands :
    got (step { rebooting none with arrivals := [.evt 0b001#3] })
      (fun t => (t.breakRequested, t.rebooting, t.ctl, t.arrivals)) =
      some (true, true, .idle, []) := by decide
/-- P4, steps 3 and 4: the engine is reset, its request and the BREAK cleared, and the `RUN` begins. -/
theorem test_reboot_runs :
    got (step { rebooting none with breakRequested := true })
      (fun t => (t.ctl, t.termExec, t.outputs, t.rebootRequested, t.breakRequested)) =
      some (.exec .run (.batch false), true, [.engineReset], false, false) := by decide
/-- T9a: `y` returns (2000000, 1000000). -/
theorem test_ctrRead :
    got (exec (.ctrRead 0) { prompt with cycleCounter := 2000000, rate := 1000000#32 })
      (·.outputs) = some [.counters 2000000 1000000#32] := by decide
/-- T9b: `y 0` leaves `window` and `tickFlag`. -/
theorem test_ctrClr :
    got (exec .ctrClr { prompt with cycleCounter := 123456, window := 77, tickFlag := true })
      (fun t => (t.cycleCounter, t.window, t.tickFlag)) = some (0, 77, true) := by decide
/-- S12c: `w` without an address changes no watchpoint; S14: the flag is cleared. -/
theorem test_cmdUndef :
    got (exec (.cmdUndef 0x0EE00000000#41)
        { prompt with watchpoint := some 0x1234#16, breakRequested := true })
      (fun t => (t.watchpoint, t.breakRequested)) = some (some 0x1234#16, false) := by decide

/-! ### The events -/

/-- T5: a BREAK ends the wait and leaves `window`. -/
theorem test_break_ends_wait :
    got (exec (.brk false false)
        { inPhase .suspended with rate := 1000#32, window := 1200 })
      (fun t => (t.breakRequested, t.window, t.ctl)) =
      some (true, 1200, .exec .run (.poll none)) := by decide
/-- T6: a tick that came while running resets `window` when a BREAK ends the wait. -/
theorem test_break_uses_stale_tick :
    got (exec (.brk false false)
        { inPhase .suspended with rate := 1000#32, window := 1300, tickFlag := true })
      (fun t => (t.breakRequested, t.window, t.tickFlag)) = some (true, 0, false) := by decide
/-- T2d: a TICK resets `window`. -/
theorem test_tick_ends_wait :
    got (exec (.tick false false) { inPhase .suspended with rate := 1000#32, window := 1200 })
      (fun t => (t.window, t.tickFlag, t.ctl)) =
      some (0, false, .exec .run (.poll none)) := by decide
/-- T10: in `IDLE` a TICK sets its flag. -/
theorem test_tick_idle :
    got (exec (.tick false false) prompt) (fun t => (t.tickFlag, t.ctl)) =
      some (true, .idle) := by decide
/-- R179: acted on in `IDLE`. -/
theorem test_rebootReq_idle :
    got (exec (.rebootReq false false) prompt) (fun t => (t.ctl, t.hook, t.rebooting)) =
      some (.idle, some 0b10#2, true) := by decide
/-- R179: not acted on during a batch. -/
theorem test_rebootReq_busy :
    exec (.rebootReq false false) (inPhase (.batch true)) = .next (inPhase (.batch true)) := by rfl

/-! ### The controller's phases -/

/-- T1d: the largest count. -/
theorem test_count_largest :
    got (step { inPhase (.count 0x7FFFFFFF#32) with cycleCounter := 100 }) (·.cycleCounter) =
      some 2147483747 := by decide
/-- T1e: the most negative count is an error code. -/
theorem test_count_negative :
    got (step { inPhase (.count 0x80000000#32) with cycleCounter := 100 })
      (fun t => (t.cycleCounter, t.ctl)) =
      some (100, .exec .run (.poll (some 0x80000000#32))) := by decide
/-- T3: `window = R` does not suspend. -/
theorem test_throttle_equal :
    got (step { inPhase (.throttle 400#32) with rate := 1000#32, window := 600 })
      (fun t => (t.window, t.ctl)) = some (1000, .exec .run (.poll none)) := by decide
/-- T2c: 1200 > 1000 suspends. -/
theorem test_throttle_over :
    got (step { inPhase (.throttle 400#32) with rate := 1000#32, window := 800 })
      (fun t => (t.window, t.ctl)) = some (1200, .exec .run .suspended) := by decide
/-- The `POLL` phase strobes `ACIA_POLL` (R126). -/
theorem test_poll_strobe :
    got (step (inPhase (.poll none))) (fun t => (t.hook, t.ctl)) =
      some (some 0b01#2, .exec .run (.poll none)) := by decide
/-- S7a: a BREAK is reported before the target. -/
theorem test_check_break_first :
    got (step
        { prompt with
          termExec := true
          ctl := .exec (.runUntil 0x0120#16) (.check none)
          breakRequested := true
          enginePC := 0x0120#16 })
      (fun t => (t.ctl, t.outputs)) = some (.idle, [.result .brk]) := by decide
/-- S7b: an error is reported before the target. -/
theorem test_check_error_first :
    got (step
        { prompt with
          termExec := true
          ctl := .exec (.runUntil 0x0120#16) (.check (some 0#32))
          enginePC := 0x0120#16 })
      (fun t => (t.breakRequested, t.termExec, t.outputs)) =
      some (true, false, [.result (.engineError 0#32)]) := by decide
/-- R174: a `Step` forces the flag before its batch. -/
theorem test_step_forces_break :
    got (step { prompt with termExec := true, ctl := .exec (.step 3) (.batch false) })
      (fun t => (t.breakRequested, t.outputs)) = some (true, [.engineBatch true]) := by decide
/-- R232: power-on goes into a `RUN`. -/
theorem test_reset_runs :
    got (step State.reset) (fun t => (t.ctl, t.autorunPending)) =
      some (.exec .run (.batch false), false) := by decide

/-! ### Words on their interfaces -/

/-- R62, R63: the engine writes 0x41 to the data register. -/
theorem test_engine_access :
    got (step
        { inPhase (.batch true) with
          bufferMode := .raw
          arrivals := [.access .engine false 0x0001#16 0x41#8] }) (·.tx) = some [0x41#8] := by
  decide
/-- R62: address 2 is not the block's. -/
theorem test_engine_access_elsewhere :
    got (step
        { inPhase (.batch true) with
          bufferMode := .raw
          arrivals := [.access .engine false 0x0002#16 0x41#8] })
      (fun t => (t.tx, t.arrivals)) = some ([], []) := by decide
/-- U12, D36: with `DEBUG_ACCESS_ROUTED = false` a console access has no effect. -/
theorem test_console_access_unrouted :
    got (step { prompt with arrivals := [.access .console false 0x0001#16 0x41#8] })
      (fun t => (t.outBuf, t.arrivals)) = some ([], []) := by decide
/-- The console line `n 3` (S1). -/
theorem test_console_line :
    got (step { prompt with arrivals := [.line [0x6E#8, 0x20#8, 0x33#8]] }) (·.ctl) =
      some (.exec (.step 3) (.batch false)) := by decide
/-- U17, R162: `g 12345` is not presented to the block, and its iteration makes the clear. -/
theorem test_line_not_presented :
    got (step
        { prompt with
          breakRequested := true
          arrivals := [.line [0x67#8, 0x20#8, 0x31#8, 0x32#8, 0x33#8, 0x34#8, 0x35#8]] })
      (fun t => (t.ctl, t.breakRequested, t.arrivals)) = some (.idle, false, []) := by decide
/-- The next step runs the word that `withFetchWord` places, from reset. -/
theorem test_placed_bus :
    got (step (State.reset.withFetchWord 10 0x141)) (·.outBuf) = some [0x41#8] := by decide
theorem test_placed_cmd :
    got (step (State.reset.withFetchWord 41 0x0E100008000)) (·.enginePC) = some 0x8000#16 := by
  decide
theorem test_placed_evt :
    got (step (State.reset.withFetchWord 3 0b010)) (·.tickFlag) = some true := by decide
theorem test_placed_hook :
    got (step ({ State.reset with echoEnabled := true }.withFetchWord 2 0b10)) (·.echoEnabled) =
      some false := by decide
/-- R95: both strobes stop the model. -/
theorem test_both_strobes :
    step { prompt with hook := some 0b11#2 } = .fault .bothHookStrobes := by rfl
/-- R90: leading whitespace, digits of either case, and a stop at the first other character. -/
theorem test_line_hex :
    readHex [0x20#8, 0x61#8, 0x42#8, 0x67#8] = .value 0xAB := by decide
/-- S12b: the word of `y 5`; and an argument of `y` that is no number is not zero either (R90). -/
theorem test_line_y_other :
    lineWord [0x79#8, 0x20#8, 0x35#8] = some 0x0F300000005#41 ∧
      readZero [0x20#8, 0x7A#8] ≠ .value 0 ∧ readZero [0x30#8, 0x30#8] ≠ .value 0 := by decide
/-- U17: five hexadecimal digits and a negative count are past the limits. -/
theorem test_line_over_limit :
    readHex [0x31#8, 0x32#8, 0x33#8, 0x34#8, 0x35#8] = .overLimit ∧
      readDecimal [0x2D#8, 0x31#8] = .overLimit := by decide

/-! ### Witnesses: the hypotheses of each statement can be met, each clause at its boundary -/

theorem witness_DecodeOfEncode :
    (Instr.goAt 0 0xFFFF#16).wellFormed = true ∧
      (Instr.cmdUndef 0x0F300000001#41).wellFormed = true ∧
      (Instr.tick false true).wellFormed = true ∧
      (Instr.rebootReq false false).wellFormed = true := by decide

theorem witness_EncodeOfDecode :
    decode (.evt 0b111#3) = .ok (.brk true true) ∧
      decode (.cmd 0x0CE0000BEEF#41) = .ok (.run 0xBEEF#32) := by decide

theorem witness_BusOperationSelect :
    0x2FF#10 &&& 0x300#10 = 0x200#10 ∧ 0x0FF#10 &&& 0x300#10 = 0x000#10 ∧
      0x300#10 &&& 0x300#10 = 0x300#10 ∧ 0x100#10 &&& 0x300#10 = 0x100#10 := by decide

theorem witness_CommandRowSelect :
    decodeCmd 0x0CF00000100#41 = .goAt 0 0x0100#16 ∧
      decodeCmd 0x0CD0000FFFF#41 = .runUntil 0 0xFFFF#16 ∧
      decodeCmd 0x0E100008000#41 = .setPc 0 0x8000#16 ∧
      decodeCmd 0x0EFFFFF1234#41 = .wpSet 0xFFFF 0x1234#16 ∧
      decodeCmd 0x0DDFFFFFFFF#41 = .stepN 0xFFFFFFFF#32 := by decide

/-- The six interfaces of `StepRunsDecodedWord`. -/
theorem witness_StepRunsDecodedWord :
    (∃ s : State, s.hook = some 0b01#2 ∧ decode (.hook 0b01#2) = .ok .aciaPoll) ∧
    (∃ s : State, s.hook = none ∧ s.arrivals = [.cmd 0x0F200000000#41] ∧ s.ctl = .idle ∧
      s.rebooting = false ∧ s.autorunPending = false) ∧
    (∃ s : State, s.hook = none ∧ s.arrivals = [.line [0x6E#8]] ∧ s.ctl = .idle ∧
      s.rebooting = false ∧ s.autorunPending = false ∧ lineWord [0x6E#8] = some 0x0DC00000000#41) ∧
    (∃ s : State, s.hook = none ∧ s.arrivals = [.evt 0b011#3] ∧
      decode (.evt 0b011#3) = .ok (.brk true false)) ∧
    (∃ s : State, s.hook = none ∧ s.arrivals = [.access .engine true 0x0001#16 0] ∧
      s.ctl = .exec .run (.batch true) ∧
      busWordAt s.cfg.aciaBase true 0x0001#16 0 = some 0x300#10) ∧
    (∃ s : State, s.hook = none ∧ s.arrivals = [.access .console true 0x0000#16 0] ∧
      s.ctl = .idle ∧ s.rebooting = false ∧ s.autorunPending = false ∧ s.cfg.debugAccessRouted = true ∧
      busWordAt s.cfg.aciaBase true 0x0000#16 0 = some 0x200#10) :=
  ⟨⟨{ inPhase (.poll none) with hook := some 0b01#2 }, rfl, by decide⟩,
    ⟨{ prompt with arrivals := [.cmd 0x0F200000000#41] }, rfl, rfl, rfl, rfl, rfl⟩,
    ⟨{ prompt with arrivals := [.line [0x6E#8]] }, rfl, rfl, rfl, rfl, rfl, by decide⟩,
    ⟨{ prompt with arrivals := [.evt 0b011#3] }, rfl, rfl, by decide⟩,
    ⟨{ inPhase (.batch true) with arrivals := [.access .engine true 0x0001#16 0] },
      rfl, rfl, rfl, by decide⟩,
    ⟨{ prompt with
        cfg := { Params.default with debugAccessRouted := true }
        arrivals := [.access .console true 0x0000#16 0] }, rfl, rfl, rfl, rfl, rfl, rfl,
      by decide⟩⟩

theorem witness_PlacedWordRunsNext :
    decodeTableWord 10 0x3FF = some (.aciaDr 0xFF#8) ∧
      decodeTableWord 41 0x1FFFFFFFFFF = some (.cmdUndef 0x1FFFFFFFFFF#41) ∧
      decodeTableWord 3 0b111 = some (.brk true true) ∧
      decodeTableWord 2 0b10 = some .aciaReset := by decide

/-- The six clauses, the two of the console access apart. -/
theorem witness_MovesWithoutOperation :
    (∃ s : State, s.hook = some 0b11#2) ∧ (∃ s : State, s.hook = some 0b00#2) ∧
    (∃ s : State, s.hook = none ∧ s.arrivals = [.evt 0b000#3]) ∧
    (∃ s : State, s.hook = none ∧ s.arrivals = [.line [0x6E#8, 0x2D#8, 0x31#8]] ∧ s.ctl = .idle ∧
      s.rebooting = false ∧ s.autorunPending = false ∧ lineWord [0x6E#8, 0x2D#8, 0x31#8] = none) ∧
    (∃ s : State, s.hook = none ∧ s.arrivals = [.access .engine true 0x0002#16 0] ∧
      s.ctl = .exec .run (.batch true) ∧
      busWordAt s.cfg.aciaBase true 0x0002#16 0 = none) ∧
    (∃ s : State, s.hook = none ∧ s.arrivals = [.access .console true 0x0001#16 0] ∧
      s.ctl = .idle ∧ s.rebooting = false ∧ s.autorunPending = false ∧ s.cfg.debugAccessRouted = false) ∧
    (∃ s : State, s.hook = none ∧ s.arrivals = [.access .console true 0xFFFF#16 0] ∧
      s.ctl = .idle ∧ s.rebooting = false ∧ s.autorunPending = false ∧
      busWordAt s.cfg.aciaBase true 0xFFFF#16 0 = none) :=
  ⟨⟨{ prompt with hook := some 0b11#2 }, rfl⟩, ⟨{ prompt with hook := some 0b00#2 }, rfl⟩,
    ⟨{ prompt with arrivals := [.evt 0b000#3] }, rfl, rfl⟩,
    ⟨{ prompt with arrivals := [.line [0x6E#8, 0x2D#8, 0x31#8]] }, rfl, rfl, rfl, rfl, rfl,
      by decide⟩,
    ⟨{ inPhase (.batch true) with arrivals := [.access .engine true 0x0002#16 0] },
      rfl, rfl, rfl, by decide⟩,
    ⟨{ prompt with arrivals := [.access .console true 0x0001#16 0] }, rfl, rfl, rfl, rfl, rfl,
      rfl⟩,
    ⟨{ prompt with arrivals := [.access .console true 0xFFFF#16 0] }, rfl, rfl, rfl, rfl, rfl,
      by decide⟩⟩

/-- Each clause at the edges of the address space: the base at its top. -/
theorem witness_TwoAddressesOnly :
    (0xFFFE#16).getLsbD 0 = false ∧ 0xFFFF#16 = 0xFFFE#16 + 1 ∧
      0xFFFD#16 ≠ 0xFFFE#16 ∧ 0xFFFD#16 ≠ 0xFFFE#16 + 1 := by decide

/-- Each of the five cases of the mode field, with its parameters. -/
theorem witness_ControlWriteResult :
    (0xFC#8).extractLsb' 0 2 = 0#2 ∧ (0x01#8).extractLsb' 0 2 = 1#2 ∧
      (0x8E#8).extractLsb' 0 2 = 2#2 ∧ (0xFF#8).extractLsb' 0 2 = 3#2 ∧
      prompt.cfg.mode3Policy = .asLine ∧ prompt.cfg.echoSemantics = .levelHigh ∧
      (∃ s : State, s.cfg.mode3Policy = .asRaw ∧ s.cfg.echoSemantics = .levelLow) ∧
      (∃ s : State, s.cfg.mode3Policy = .refuse ∧ s.cfg.echoSemantics = .toggle) :=
  ⟨by decide, by decide, by decide, by decide, rfl, rfl,
    ⟨{ prompt with cfg :=
        { Params.default with mode3Policy := .asRaw, echoSemantics := .levelLow } }, rfl, rfl⟩,
    ⟨{ prompt with cfg :=
        { Params.default with mode3Policy := .refuse, echoSemantics := .toggle } }, rfl, rfl⟩⟩

/-- A14's write with each policy. -/
theorem witness_ReservedModePolicies :
    (0x03#8).extractLsb' 0 2 = 3#2 ∧ prompt.cfg.mode3Policy = .asLine ∧
      (∃ s : State, s.cfg.mode3Policy = .refuse) ∧ (∃ s : State, s.cfg.mode3Policy = .asRaw) :=
  ⟨by decide, rfl,
    ⟨{ prompt with cfg := { Params.default with mode3Policy := .refuse } }, rfl⟩,
    ⟨{ prompt with cfg := { Params.default with mode3Policy := .asRaw } }, rfl⟩⟩

/-- A15's two writes. -/
theorem witness_ReservedControlBitsIgnored : 0x70#8 &&& 0x8F#8 = 0x00#8 &&& 0x8F#8 := by decide

theorem witness_DataReadResult :
    (acia [0x42#8] [] .line false false false).inBuf = [0x42#8] ∧ prompt.inBuf = [] := by decide

/-- A6: `n` bytes 0x2E held in `Line`. -/
def held (n : Nat) : State := acia [] (List.replicate n 0x2E#8) .line false false false

theorem held_length (n : Nat) : (held n).outBuf.length = n := List.length_replicate

/-- A6: the 255th byte is held, the 256th flushes; and the two other conditions. -/
theorem witness_DataWriteResult :
    (∃ s : State, s.bufferMode = .raw) ∧ 0x0A#8 ∈ prompt.cfg.lineTerm ∧
      (∃ s : State, s.outBuf.length + 1 = txCap) ∧
      (∃ s : State, s.outBuf.length + 2 = txCap ∧
        ¬(s.bufferMode = .raw ∨ 0x2E#8 ∈ s.cfg.lineTerm ∨ s.outBuf.length + 1 = txCap)) :=
  ⟨⟨acia [] [] .raw false false false, rfl⟩, by decide,
    ⟨held 255, by rw [held_length]; rfl⟩,
    ⟨held 254, by rw [held_length]; rfl, by rw [held_length]; decide⟩⟩

/-- Each clause, the last with a read of `RX_CAP` bytes and with one more. -/
theorem witness_PollResult :
    (acia [0x58#8] [] .line true false false).inBuf ≠ [] ∧ prompt.rx = [] ∧
      (∃ s : State, s.inBuf = [] ∧ s.rx = [[]]) ∧
      (∃ s : State, ∃ l : List Byte,
        s.inBuf = [] ∧ s.rx = [l] ∧ l ≠ [] ∧ l.length = 256) ∧
      (∃ s : State, ∃ l : List Byte,
        s.inBuf = [] ∧ s.rx = [l] ∧ l ≠ [] ∧ l.length = 257) :=
  ⟨by decide, rfl, ⟨{ prompt with rx := [[]] }, rfl, rfl⟩,
    ⟨{ prompt with rx := [List.replicate 256 0x41#8] }, _, rfl, rfl, List.cons_ne_nil _ _,
      List.length_replicate⟩,
    ⟨{ prompt with rx := [List.replicate 257 0x41#8] }, _, rfl, rfl, List.cons_ne_nil _ _,
      List.length_replicate⟩⟩

/-- `IDLE` with each choice of the clear point: the hypothesis of `RunCommandsStart`,
`StepCommandsStart`, `SetPcResult`, `WatchpointSetResult`, `CounterReadResult`,
`CounterClearResult`, `UndefinedCommandResult` and `RebootCommandResult`; and the least and the
greatest count of a `STEP` that runs. -/
theorem witness_commands_in_idle :
    prompt.ctl = .idle ∧ prompt.rebooting = false ∧
      State.reset.ctl = .idle ∧ State.reset.rebooting = false ∧
      (∃ s : State, s.ctl = .idle ∧ s.rebooting = false ∧ s.cfg.brkClearPoint = .afterDispatch ∧
        s.breakRequested = true) ∧
      (1 : Long) ≠ 0 ∧ (0xFFFFFFFF#32 : Long) ≠ 0 :=
  ⟨rfl, rfl, rfl, rfl,
    ⟨{ prompt with
        cfg := { Params.default with brkClearPoint := .afterDispatch }
        breakRequested := true }, rfl, rfl, rfl, rfl⟩, by decide, by decide⟩

/-- Both clear points; with the second, a command that stays in the command loop and two that do not;
and a line past a limit. -/
theorem witness_CommandLoopClearsBreak :
    (∃ s t : State, isCommand (.ctrRead 0) = true ∧ s.ctl = .idle ∧ s.rebooting = false ∧
      s.breakRequested = true ∧ exec (.ctrRead 0) s = .next t ∧
      s.cfg.brkClearPoint = .beforeDispatch) ∧
    (∃ s t : State, isCommand (.ctrRead 0) = true ∧ s.ctl = .idle ∧ s.rebooting = false ∧
      s.breakRequested = true ∧ exec (.ctrRead 0) s = .next t ∧
      s.cfg.brkClearPoint = .afterDispatch ∧ t.inCommandLoop = true) ∧
    (∀ i ∈ [Instr.run 0, Instr.reboot false 0], isCommand i = true ∧
      ∃ s t : State, s.ctl = .idle ∧ s.rebooting = false ∧ s.breakRequested = true ∧
        exec i s = .next t ∧ s.cfg.brkClearPoint = .afterDispatch ∧ t.inCommandLoop = false) ∧
    (∃ s t : State, s.hook = none ∧ s.arrivals = [.line [0x6E#8, 0x2D#8, 0x31#8]] ∧
      s.ctl = .idle ∧ s.rebooting = false ∧ s.autorunPending = false ∧
      lineWord [0x6E#8, 0x2D#8, 0x31#8] = none ∧ s.breakRequested = true ∧ step s = .next t) := by
  refine ⟨⟨{ prompt with breakRequested := true }, _, rfl, rfl, rfl, rfl, rfl, rfl⟩,
    ⟨{ prompt with
        cfg := { Params.default with brkClearPoint := .afterDispatch }
        breakRequested := true }, _, rfl, rfl, rfl, rfl, rfl, rfl, rfl⟩, ?_,
    ⟨{ prompt with
        breakRequested := true
        arrivals := [.line [0x6E#8, 0x2D#8, 0x31#8]] },
      _, rfl, rfl, rfl, rfl, rfl, by decide, rfl, rfl⟩⟩
  intro i hi
  rcases List.mem_pair.mp hi with rfl | rfl
  all_goals
    exact ⟨rfl, { prompt with
        cfg := { Params.default with brkClearPoint := .afterDispatch }
        breakRequested := true }, _, rfl, rfl, rfl, rfl, rfl, rfl⟩

/-- A command operation, a command word and a console line, each during a batch; and a command word
during the sequence of a reboot. -/
theorem witness_CommandsWaitDuringExecution :
    isCommand (.setPc 0 0x8000#16) = true ∧ (inPhase (.batch true)).ctl ≠ .idle ∧
      (∃ s : State, s.hook = none ∧ s.arrivals = [.cmd 0x0E100008000#41] ∧ s.ctl ≠ .idle) ∧
      (∃ s : State, s.hook = none ∧ s.arrivals = [.line [0x67#8]] ∧ s.ctl ≠ .idle) ∧
      (∃ s : State, s.hook = none ∧ s.arrivals = [.cmd 0x0E100008000#41] ∧ s.rebooting = true) :=
  ⟨rfl, by decide,
    ⟨{ inPhase (.batch true) with arrivals := [.cmd 0x0E100008000#41] }, rfl, rfl, by decide⟩,
    ⟨{ inPhase (.count 1) with arrivals := [.line [0x67#8]] }, rfl, rfl, by decide⟩,
    ⟨{ rebooting none with arrivals := [.cmd 0x0E100008000#41] }, rfl, rfl, rfl⟩⟩

/-- The three rows an event word can stand under, with the controller in each kind of position:
`EventsDuringExecution`, `EventsEndSuspension`, `EventsInCommandMode`. -/
theorem witness_events :
    ((Instr.brk true false = .brk true false ∧ true = true) ∧
      (Instr.tick false true = .tick false true ∧ true = true) ∧
      (Instr.rebootReq false false = .rebootReq false false ∧ true = true)) ∧
    (∃ s : State, s.ctl = .exec .run (.batch true) ∧ (Phase.batch true) ≠ .suspended) ∧
    (∃ s : State, s.ctl = .exec .run .suspended ∧ s.tickFlag = true) ∧
    (∃ s : State, s.ctl = .exec .run .suspended ∧ s.tickFlag = false) ∧
    (∃ s : State, s.ctl = .idle ∧ s.rebootRequested = false) ∧
    (∃ s : State, s.ctl = .idle ∧ s.rebootRequested = true ∧ s.rebooting = false ∧
      s.arrivals = []) ∧
    (∃ s : State, s.ctl = .idle ∧ s.rebootRequested = true ∧ s.rebooting = true) :=
  ⟨by decide, ⟨inPhase (.batch true), rfl, by decide⟩,
    ⟨{ inPhase .suspended with tickFlag := true }, rfl, rfl⟩, ⟨inPhase .suspended, rfl, rfl⟩,
    ⟨prompt, rfl, rfl⟩, ⟨{ prompt with rebootRequested := true }, rfl, rfl, rfl, rfl⟩,
    ⟨rebooting none, rfl, rfl, rfl⟩⟩

/-- The counts where the two clauses meet, 1 and 0, and the two ends of the range. -/
theorem witness_CountPhaseResult :
    (∃ s u : State, fetch s = .turn u ∧ u.ctl = .exec .run (.count 1#32)) ∧
      0 < (1#32).toInt ∧ 0 < (0x7FFFFFFF#32).toInt ∧ (0#32).toInt ≤ 0 ∧
      (0x80000000#32).toInt ≤ 0 :=
  ⟨⟨inPhase (.count 1#32), _, rfl, rfl⟩, by decide⟩

/-- T3, T2c, T4: no rate, the window at the rate, and the window one over it. -/
theorem witness_ThrottlePhaseResult :
    (∃ s u : State, fetch s = .turn u ∧ u.ctl = .exec .run (.throttle 400#32) ∧ u.rate = 0) ∧
    (∃ s u : State, fetch s = .turn u ∧ u.ctl = .exec .run (.throttle 400#32) ∧ u.rate ≠ 0 ∧
      u.window + (400#32).toNat = u.rate.toNat) ∧
    (∃ s u : State, fetch s = .turn u ∧ u.ctl = .exec .run (.throttle 400#32) ∧ u.rate ≠ 0 ∧
      u.window + (400#32).toNat = u.rate.toNat + 1) :=
  ⟨⟨inPhase (.throttle 400#32), _, rfl, rfl, rfl⟩,
    ⟨{ inPhase (.throttle 400#32) with rate := 1000#32, window := 600 }, _, rfl, rfl, by decide,
      by decide⟩,
    ⟨{ inPhase (.throttle 400#32) with rate := 1000#32, window := 601 }, _, rfl, rfl, by decide,
      by decide⟩⟩

/-- A step that stays suspended, one on a REBOOT_REQ, and one that a TICK wakes. -/
theorem witness_SuspensionNeedsEvent :
    (∃ s t : State, s.hook = none ∧ s.ctl = .exec .run .suspended ∧ step s = .next t) ∧
    (∃ s t : State, s.hook = none ∧ s.ctl = .exec .run .suspended ∧
      s.arrivals = [.evt 0b100#3] ∧ step s = .next t) ∧
    (∃ s t : State, s.hook = none ∧ s.ctl = .exec .run .suspended ∧
      s.arrivals = [.evt 0b010#3] ∧ step s = .next t ∧ t.ctl ≠ .exec .run .suspended) :=
  ⟨⟨inPhase .suspended, _, rfl, rfl, rfl⟩,
    ⟨{ inPhase .suspended with arrivals := [.evt 0b100#3] }, _, rfl, rfl, rfl, rfl⟩,
    ⟨{ inPhase .suspended with arrivals := [.evt 0b010#3] }, _, rfl, rfl, rfl, rfl, by decide⟩⟩

/-- Each kind before its batch. -/
theorem witness_BatchCallResult :
    ∀ k ∈ [Kind.step 1, Kind.run, Kind.runUntil 0x0120#16],
      ∃ s u : State, fetch s = .turn u ∧ u.ctl = .exec k (.batch false) := by
  intro k _
  exact ⟨{ prompt with termExec := true, ctl := .exec k (.batch false) }, _, rfl, rfl⟩

/-- A return inside a batch, and one that waits. -/
theorem witness_BatchReturnResult :
    (∃ s : State, s.hook = none ∧ s.arrivals = [.batchReturn 5 0x0102#16 true] ∧
      s.ctl = .exec .run (.batch true)) ∧
    (∃ s : State, s.hook = none ∧ s.arrivals = [.batchReturn 5 0x0102#16 true] ∧
      ∀ k, s.ctl ≠ .exec k (.batch true)) :=
  ⟨⟨{ inPhase (.batch true) with arrivals := [.batchReturn 5 0x0102#16 true] }, rfl, rfl, rfl⟩,
    ⟨{ inPhase (.batch false) with arrivals := [.batchReturn 5 0x0102#16 true] }, rfl, rfl, by
      intro k h
      cases h⟩⟩

/-- Each kind at its check: the last and the last but one batch of a `Step`, and a `RunUntil` at its
target and elsewhere. -/
theorem witness_CheckPhaseResult :
    ∀ k ∈ [Kind.step 1, Kind.step 2, Kind.run, Kind.runUntil 0x0000#16, Kind.runUntil 0x0120#16],
      ∃ s u : State, fetch s = .turn u ∧ u.ctl = .exec k (.check none) ∧ u.enginePC = 0 := by
  intro k _
  exact ⟨{ prompt with termExec := true, ctl := .exec k (.check none) }, _, rfl, rfl, rfl⟩

theorem witness_EngineErrorEntry :
    ∃ s u : State, fetch s = .turn u ∧ u.ctl = .exec .run (.check (some 0xFFFFFFFF#32)) :=
  ⟨inPhase (.check (some 0xFFFFFFFF#32)), _, rfl, rfl⟩

/-- T1b, T1e. -/
theorem witness_ErroringBatchStops :
    ∀ c ∈ [0#32, 0x80000000#32],
      ∃ s : State, s.hook = none ∧ s.arrivals = [] ∧ s.ctl = .exec .run (.count c) ∧
        c.toInt ≤ 0 := by
  intro c h
  refine ⟨inPhase (.count c), rfl, rfl, rfl, ?_⟩
  rcases List.mem_pair.mp h with rfl | rfl <;> decide

/-- S1: `n 3` with batches returning 5, 3, 4. -/
theorem witness_StepRunsExactlyCountBatches :
    ∃ (s : State) (rets : List (Long × Addr × Bool)),
      (3 : Long) ≠ 0 ∧ rets.length = (3 : Long).toNat ∧ (∀ x ∈ rets, 0 < x.1.toInt) ∧
      s.ctl = .exec (.step 3) (.batch false) ∧ s.hook = none ∧ s.rate = 0 ∧
      s.arrivals = rets.map (fun x => .batchReturn x.1 x.2.1 x.2.2) :=
  ⟨{ prompt with
      termExec := true
      ctl := .exec (.step 3) (.batch false)
      arrivals := [.batchReturn 5 0x0102#16 false, .batchReturn 3 0x0104#16 false,
        .batchReturn 4 0x0106#16 true] },
    [(5, 0x0102#16, false), (3, 0x0104#16, false), (4, 0x0106#16, true)],
    by decide, by decide, by simp, rfl, rfl, rfl, rfl⟩

/-- A step under a row of the table, one that leaves `ctl` alone, and steps that begin a reboot
sequence. -/
theorem witness_ControllerFollowsTable :
    (∃ s t : State, step s = .next t ∧ t.ctl ≠ s.ctl) ∧
      (∃ s t : State, step s = .next t ∧ t.ctl = s.ctl) ∧
      (∃ s t : State, step s = .next t ∧ s.rebooting = false ∧ t.rebooting = true ∧
        s.arrivals = [.cmd 0x0F000000000#41]) ∧
      (∃ s t : State, step s = .next t ∧ s.rebooting = false ∧ t.rebooting = true ∧
        s.arrivals = [.evt 0b010#3] ∧ s.rebootRequested = true) :=
  ⟨⟨State.reset, _, rfl, by decide⟩, ⟨prompt, _, rfl, rfl⟩,
    ⟨{ prompt with arrivals := [.cmd 0x0F000000000#41] }, _, rfl, rfl, rfl, rfl⟩,
    ⟨{ prompt with rebootRequested := true, arrivals := [.evt 0b010#3] },
      _, rfl, rfl, rfl, rfl, rfl⟩⟩

/-- A state with everything in use: a suspended `Step`, unread and waiting bytes, an interrupt
pending, an `after_dispatch` clear to come, and a TICK on its way. -/
def busy : State :=
  { acia [0x41#8] [0x3E#8] .line true true true with
    cfg := { Params.default with brkClearPoint := .afterDispatch }
    rate := 1000#32
    window := 1200
    breakRequested := true
    clearPending := true
    termExec := true
    ctl := .exec (.step 2) .suspended
    arrivals := [.evt 0b010#3] }

theorem busy_inv : busy.Inv where
  inBufFits := by decide
  outBufFits := by decide
  pendingEnabled := by decide
  termExecLevel := by decide
  autorunIdle := by decide
  rebootIdle := by decide
  clearLater := by decide
  ctlSound := ⟨by simp [Kind.sound], by simp [Phase.sound, busy, acia]⟩
  hookPhase := by simp [busy, acia, prompt, State.powerOn]

/-- The hypotheses of `StepKeepsInv`, and of `ParametersNeverWritten` and `OutputsOnlyGrow`. -/
theorem witness_StepKeepsInv : busy.Inv ∧ ∃ t, step busy = .next t ∧ t.ctl ≠ busy.ctl :=
  ⟨busy_inv, _, rfl, by decide⟩

/-- A step that adds to the counter, and one that runs `CTR_CLR`. -/
theorem witness_CycleCounterMonotone :
    (∃ s t : State, step s = .next t ∧ s.cycleCounter < t.cycleCounter) ∧
      (∃ s t u : State, step s = .next t ∧ fetch s = .run .ctrClr u ∧
        t.cycleCounter < s.cycleCounter) :=
  ⟨⟨inPhase (.count 7#32), _, rfl, by decide⟩,
    ⟨{ prompt with cycleCounter := 123456, arrivals := [.cmd 0x0F300000000#41] }, _, _, rfl, rfl,
      by decide⟩⟩

/-- `InterruptEnableSticky` and `PendingClearedByStatusReadOrReset`: each way the flags go, by an
operation and by a step, and a control write and a turn that keep them (A8). -/
theorem witness_interrupt_flags :
    (∃ t, exec (.aciaCw 0x00#8) (acia [] [] .line true true false) = .next t ∧
      t.interruptEnabled = true ∧ t.interruptPending = true) ∧
    (∃ t, exec (.aciaSr 0) (acia [] [] .line true true false) = .next t ∧
      t.interruptPending = false) ∧
    (∃ t, exec .aciaReset (acia [] [] .line true true false) = .next t ∧
      t.interruptEnabled = false ∧ t.interruptPending = false) ∧
    (∃ s t u : State, s.interruptEnabled = true ∧ s.interruptPending = true ∧
      step s = .next t ∧ fetch s = .run .aciaReset u ∧ t.interruptEnabled = false ∧
      t.interruptPending = false) ∧
    (∃ s t u : State, s.interruptPending = true ∧ step s = .next t ∧
      fetch s = .run (.aciaSr 0) u ∧ t.interruptPending = false) ∧
    (∃ s t : State, s.interruptEnabled = true ∧ s.interruptPending = true ∧
      step s = .next t ∧ t.interruptEnabled = true ∧ t.interruptPending = true) :=
  ⟨⟨_, rfl, rfl, rfl⟩, ⟨_, rfl, rfl⟩, ⟨_, rfl, rfl, rfl⟩,
    ⟨rebooting (some 0b10#2), _, _, rfl, rfl, rfl, rfl, rfl, rfl⟩,
    ⟨{ inPhase (.batch true) with
        interruptEnabled := true
        interruptPending := true
        arrivals := [.access .engine true 0x0000#16 0] },
      _, _, rfl, rfl, rfl, rfl⟩,
    ⟨rebooting none, _, rfl, rfl, rfl, rfl, rfl⟩⟩

/-- A receive batch about to be loaded with interrupts enabled, in a state of the block. -/
def loading : State :=
  { inPhase (.poll none) with
    interruptEnabled := true
    hook := some 0b01#2
    rx := [[0x61#8]] }

theorem loading_inv : loading.Inv where
  inBufFits := by decide
  outBufFits := by decide
  pendingEnabled := by decide
  termExecLevel := by decide
  autorunIdle := by decide
  rebootIdle := by decide
  clearLater := by decide
  ctlSound := ⟨trivial, by simp [Phase.sound]⟩
  hookPhase := by
    intro w h
    simp only [loading, inPhase, Option.mem_def, Option.some.injEq] at h
    exact .inl ⟨h.symm, rfl⟩

/-- `OnePulsePerLoadedBatch` and `ReceiveOnlyBetweenBatches`: both disjuncts of the latter. -/
theorem witness_ReceiveOnlyBetweenBatches :
    loading.Inv ∧ ∃ t, step loading = .next t ∧ loading.inBuf = [] ∧ t.inBuf ≠ [] ∧
      loading.interruptPending = false ∧ t.interruptPending = true ∧ t.pulses = 1 :=
  ⟨loading_inv, _, rfl, rfl, by decide, rfl, rfl, by decide⟩

/-- `TransmitKeepsOrder` and `ReceiveKeepsOrder`: a write, a read, and the reset that discards; and
the steps that run no operation: a turn, the host's bytes, the console's line reader. -/
theorem witness_stream_order :
    (∃ t, exec (.aciaDw 0x41#8) prompt = .next t ∧ t.outBuf = [0x41#8]) ∧
    (∃ t, exec (.aciaDr 0) (acia [0x41#8] [] .line false false false) = .next t ∧
      t.inBuf = []) ∧
    (∃ t, exec .aciaReset (acia [0x41#8] [0x3E#8] .line false false false) = .next t ∧
      t.outBuf = [] ∧ t.inBuf = []) ∧
    (∃ t, step (inPhase (.poll none)) = .next t ∧
      ∀ i u, fetch (inPhase (.poll none)) ≠ .run i u) ∧
    (∃ s t : State, step s = .next t ∧ (∀ i u, fetch s ≠ .run i u) ∧
      s.arrivals = [.rx [0x41#8]] ∧ t.rx = [[0x41#8]]) ∧
    (∃ s t : State, step s = .next t ∧ (∀ i u, fetch s ≠ .run i u) ∧
      s.arrivals = [.consoleRead] ∧ s.atPrompt = true ∧ s.rx = [[0x41#8]] ∧ t.rx = []) :=
  ⟨⟨_, rfl, rfl⟩, ⟨_, rfl, rfl⟩, ⟨_, rfl, rfl, rfl⟩, ⟨_, rfl, (by intro i u h; cases h)⟩,
    ⟨{ prompt with arrivals := [.rx [0x41#8]] }, _, rfl, (by intro i u h; cases h), rfl, rfl⟩,
    ⟨{ prompt with rx := [[0x41#8]], arrivals := [.consoleRead] }, _, rfl,
      (by intro i u h; cases h), rfl, rfl, rfl, rfl⟩⟩

/-- `WatchpointIsNeverRead`: each outcome of a step. -/
theorem witness_WatchpointIsNeverRead :
    (∃ s t : State, step s = .next t) ∧
    (∃ s : State, step s = .fault .bothHookStrobes) ∧
    (∃ s : State, step s = .refused .mode3Refused) :=
  ⟨⟨prompt, _, rfl⟩, ⟨{ prompt with hook := some 0b11#2 }, rfl⟩,
    ⟨{ inPhase (.batch true) with
        cfg := { Params.default with mode3Policy := .refuse }
        arrivals := [.access .engine false 0x0000#16 0x03#8] }, rfl⟩⟩

/-- `BusIgnoresTimerAndController` and `BusLeavesTimerAndController`: the same ACIA inside a batch
and in `IDLE` with other counters. -/
theorem witness_bus_noninterference :
    isBus (.aciaDr 0) = true ∧
    ∃ s s' t : State, s.sameAcia s' ∧ s'.cfg = s.cfg ∧ s'.draws = s.draws ∧
      s'.outputs = s.outputs ∧ exec (.aciaDr 0) s = .next t ∧ s'.ctl ≠ s.ctl ∧
      s'.cycleCounter ≠ s.cycleCounter :=
  ⟨rfl, { inPhase (.batch true) with inBuf := [0x41#8] },
    { prompt with inBuf := [0x41#8], cycleCounter := 7, window := 9, tickFlag := true }, _,
    by simp [State.sameAcia, inPhase], rfl, rfl, rfl, rfl, by decide, by decide⟩

/-- The turn that strobes, with an error and without, and the strobe standing. -/
theorem witness_PollPhaseResult :
    (∀ err ∈ [none, some 0x80000000#32],
      ∃ s u : State, fetch s = .turn u ∧ u.ctl = .exec .run (.poll err)) ∧
    loading.hook = some 0b01#2 ∧ loading.ctl = .exec .run (.poll none) :=
  ⟨fun err _ => ⟨inPhase (.poll err), _, rfl, rfl⟩, rfl, rfl⟩

/-- The strobe standing; an event word after it; and the controller's turn, with a BREAK set and with a
command word waiting. -/
theorem witness_RebootPhaseResult :
    (∃ s : State, s.hook = some 0b10#2 ∧ s.ctl = .idle ∧ s.rebooting = true) ∧
    (∀ w ∈ [0b001#3, 0b111#3], w ≠ 0b000#3 ∧ ∃ s : State, s.hook = none ∧ s.ctl = .idle ∧
      s.rebooting = true ∧ s.arrivals = [.evt w]) ∧
    (∃ s u : State, fetch s = .turn u ∧ u.ctl = .idle ∧ u.rebooting = true ∧
      u.breakRequested = true ∧ u.arrivals = [.cmd 0x0CE00000000#41]) := by
  refine ⟨⟨rebooting (some 0b10#2), rfl, rfl, rfl⟩, ?_,
    ⟨{ rebooting none with breakRequested := true, arrivals := [.cmd 0x0CE00000000#41] },
      _, rfl, rfl, rfl, rfl, rfl⟩⟩
  intro w hw
  rcases List.mem_pair.mp hw with rfl | rfl
  all_goals exact ⟨by decide, { rebooting none with arrivals := [.evt _] }, rfl, rfl, rfl, rfl⟩

/-- Each way the flag stays or goes: a batch, a command word and a console line, the exit of an
`after_dispatch` iteration, and the reboot. -/
theorem witness_BreakClearedOnlyByIterationOrReboot :
    (∃ s t : State, step s = .next t ∧ s.breakRequested = true ∧ t.breakRequested = true) ∧
    (∃ s t : State, step s = .next t ∧ s.breakRequested = true ∧ t.breakRequested = false ∧
      s.hook = none ∧ s.atPrompt = true ∧ s.arrivals = [.cmd 0x0F200000000#41]) ∧
    (∃ s t : State, step s = .next t ∧ s.breakRequested = true ∧ t.breakRequested = false ∧
      s.hook = none ∧ s.atPrompt = true ∧ s.arrivals = [.line [0x71#8]]) ∧
    (∃ s t : State, step s = .next t ∧ s.breakRequested = true ∧ t.breakRequested = false ∧
      s.clearPending = true ∧ t.ctl = .idle ∧ t.clearPending = false) ∧
    (∃ s t : State, step s = .next t ∧ s.breakRequested = true ∧ t.breakRequested = false ∧
      s.ctl = .idle ∧ s.rebooting = true ∧ t.ctl = .exec .run (.batch false)) :=
  ⟨⟨{ inPhase (.batch false) with breakRequested := true }, _, rfl, rfl, rfl⟩,
    ⟨{ prompt with breakRequested := true, arrivals := [.cmd 0x0F200000000#41] },
      _, rfl, rfl, rfl, rfl, rfl, rfl⟩,
    ⟨{ prompt with breakRequested := true, arrivals := [.line [0x71#8]] },
      _, rfl, rfl, rfl, rfl, rfl, rfl⟩,
    ⟨{ inPhase (.check none) with breakRequested := true, clearPending := true },
      _, rfl, rfl, rfl, rfl, rfl, rfl⟩,
    ⟨{ rebooting none with breakRequested := true }, _, rfl, rfl, rfl, rfl, rfl, rfl⟩⟩

end Sys2Proof.Tests
end

section
/-! Events and the reboot sequence: what an event word does in `IDLE` (R94, R147, R179, R183), and
the three steps of the reboot sequence (R180). -/

namespace Sys2Proof.Machine

/-! ### Event words (R94, R212) -/

/-- `i` is a row an event word with these lines can stand under: the row's own line is 1. -/
def IsEventRow (i : Instr) (b t r : Bool) : Prop :=
  i = .brk t r ∧ b = true ∨ i = .tick b r ∧ t = true ∨ i = .rebootReq b t ∧ r = true

/-- The row names one line of its word; every line of the word acts, whichever row that is. -/
theorem IsEventRow.exec_eq {i : Instr} {b t r : Bool} (h : IsEventRow i b t r) (s : State) :
    exec i s = .next (s.events b t r) := by
  obtain ⟨rfl, rfl⟩ | ⟨rfl, rfl⟩ | ⟨rfl, rfl⟩ := h <;> rfl

theorem IsEventRow.line_high {i : Instr} {b t r : Bool} (h : IsEventRow i b t r) :
    (b || t || r) = true := by
  obtain ⟨-, rfl⟩ | ⟨-, rfl⟩ | ⟨-, rfl⟩ := h <;> simp

theorem evtWord_line_high :
    ∀ w : EvtWord, w ≠ 0b000#3 → (w.getLsbD 0 || w.getLsbD 1 || w.getLsbD 2) = true := by
  decide

theorem decodeEvt_isEventRow {w : EvtWord} (hw : w ≠ 0b000#3) :
    ∃ i, decodeEvt w = .ok i ∧
      IsEventRow i (w.getLsbD 0) (w.getLsbD 1) (w.getLsbD 2) := by
  have hline := evtWord_line_high w hw
  unfold decodeEvt
  cases hb : w.getLsbD 0 with
  | true => exact ⟨_, rfl, .inl ⟨rfl, rfl⟩⟩
  | false =>
    cases ht : w.getLsbD 1 with
    | true => exact ⟨_, rfl, .inr (.inl ⟨rfl, rfl⟩)⟩
    | false =>
      have hr : w.getLsbD 2 = true := by simpa only [hb, ht, Bool.false_or] using hline
      rw [hr]
      exact ⟨_, rfl, .inr (.inr ⟨rfl, rfl⟩)⟩

/-- An event word that is next in line lands at once, whatever the controller is doing (R71). -/
theorem step_event {s : State} {w : EvtWord} {later : List Arrival} (hk : s.hook = none)
    (ha : s.arrivals = .evt w :: later) (hw : w ≠ 0b000#3) :
    step s = .next
      ({ s with arrivals := later }.events (w.getLsbD 0) (w.getLsbD 1) (w.getLsbD 2)) := by
  obtain ⟨i, hd, hi⟩ := decodeEvt_isEventRow hw
  have hf : fetch s = .run i { s with arrivals := later } := by
    rw [fetch_arrival hk ha]
    simp [State.present, hd]
  rw [step_run hf, hi.exec_eq]

/-! ### Events in `IDLE` (R179, R180) -/

/-- With no reboot asked for, an event word in `IDLE` only sets its flags. -/
theorem State.events_idle_quiet {s : State} {b t r : Bool} (hc : s.ctl = .idle) (hr : r = false)
    (hq : s.rebootRequested = false) : s.events b t r = s.setEventFlags b t := by
  simp [State.events, hc, hr, hq]

/-- An event word of `IDLE` that asks for a reboot, or finds one asked for, begins the sequence. -/
theorem State.events_idle_reboots {s : State} {b t r : Bool} (hc : s.ctl = .idle)
    (hn : s.rebooting = false) (hline : (b || t || r) = true)
    (hq : r = true ∨ s.rebootRequested = true) :
    s.events b t r = (s.setEventFlags b t).beginReboot := by
  have hask : (r || (b || t) && s.rebootRequested) = true := by
    obtain rfl | hq := hq
    · simp
    · simpa [hq, Bool.or_comm] using hline
  simp [State.events, hc, hn, hask]

/-! ### The reboot sequence (R180) -/

/-- `ACIA_RESET` strobed in `IDLE` is served before anything else (R95, R128). -/
theorem step_resetStrobe {s : State} (hk : s.hook = some 0b10#2) (hc : s.ctl = .idle) :
    step s = .next { s.resetAcia with hook := none } := by
  have hserved : s.hookServed 0b10#2 = { s with hook := none } := by
    simp [State.hookServed, hc]
  have hf : fetch s = .run .aciaReset { s with hook := none } := by
    rw [fetch_hook hk, ← hserved]
    rfl
  rw [step_run hf]
  rfl

theorem step_finishReboot {s u : State} (hf : fetch s = .turn u) (hc : u.ctl = .idle)
    (hb : u.rebooting = true) : step s = .next u.finishReboot := by
  rw [step_turn hf, State.turn_rebooting hc hb]

/-- With no other agent moving, two steps complete a reboot sequence whose strobe stands. -/
theorem steps_rebootSequence {s : State} (hk : s.hook = some 0b10#2) (hc : s.ctl = .idle)
    (hb : s.rebooting = true) (ha : s.arrivals = []) :
    steps 2 s = .next { s.resetAcia with hook := none }.finishReboot := by
  have hserve := step_resetStrobe hk hc
  have hfinish : step { s.resetAcia with hook := none } =
      .next { s.resetAcia with hook := none }.finishReboot :=
    step_finishReboot (fetch_nobody rfl ha) hc hb
  rw [steps_succ 1 hserve, steps_succ 0 hfinish, steps]

/-! ### The obligations -/

/-- Settles O32: the branches of the event handler in `IDLE`, then the two steps of the sequence it
begins. -/
theorem eventsInCommandMode : Obligations.EventsInCommandMode := by
  intro s i b t r (hi : IsEventRow i b t r) hc
  constructor
  case left =>
    rintro (⟨hr, hq⟩ | hb)
    · rw [hi.exec_eq, State.events_idle_quiet hc hr hq]
      rfl
    · rw [hi.exec_eq, State.events_rebooting s b t r hc hb]
      rfl
  case right =>
    intro hq hn begun
    have hbegun : begun = (s.setEventFlags b t).beginReboot := rfl
    constructor
    · rw [hi.exec_eq, State.events_idle_reboots hc hn hi.line_high hq, hbegun]
    · intro ha
      exact ⟨_, steps_rebootSequence (s := begun) rfl hc rfl ha⟩

/-- Settles O59, one clause for each step of the sequence: the strobe served, an event landing, and
the controller's turn. -/
theorem rebootPhaseResult : Obligations.RebootPhaseResult := by
  refine ⟨fun s hk hc => step_resetStrobe hk hc, ?_,
    fun s u hf hc hb => ⟨_, step_finishReboot hf hc hb⟩⟩
  intro s w later hk hc hb ha hw
  rw [step_event hk ha hw, State.events_rebooting { s with arrivals := later } _ _ _ hc hb]
  rfl

end Sys2Proof.Machine
end

section
/-! What each kind of move can do, said once, and what it leaves alone: an operation (R70), the
controller's turn (R163), another agent's move (R12). The rules about every step start here. -/

namespace Sys2Proof.Machine

/-! ### Operations by their format (R80) -/

/-- What a command does between the start of its iteration and the end of its dispatch (R162). The
operations of the other formats have no iteration. -/
def commandBody (i : Instr) (s : State) : State :=
  match i with
  | .run _ => s.startExec .run
  | .goAt _ addr => { s with enginePC := addr }.startExec .run
  | .runUntil _ target => s.startExec (.runUntil target)
  | .step1 _ => s.startStep 1
  | .stepN count => s.startStep count
  | .setPc _ addr => { s with enginePC := addr }
  | .wpSet _ addr => { s with watchpoint := some addr }
  | .reboot _ _ => s.beginReboot
  | .ctrRead _ => s.emit (.counters s.cycleCounter s.rate)
  | .ctrClr => { s with cycleCounter := 0 }
  | _ => s

theorem exec_command {i : Instr} (hi : isCommand i = true) (s : State) :
    exec i s = .next (s.command (commandBody i)) := by
  cases i <;> cases hi <;> rfl

theorem isBus_eq_false_of_isCommand {i : Instr} (hi : isCommand i = true) : isBus i = false := by
  cases i <;> cases hi <;> rfl

theorem IsEventRow.isBus_eq_false {i : Instr} {b t r : Bool} (hi : IsEventRow i b t r) :
    isBus i = false := by
  obtain ⟨rfl, -⟩ | ⟨rfl, -⟩ | ⟨rfl, -⟩ := hi <;> rfl

theorem isBus_decodeBus (w : BusWord) : isBus (decodeBus w) = true := by
  unfold decodeBus
  cases w.getLsbD 9 <;> cases w.getLsbD 8 <;> rfl

theorem isCommand_decodeCmd (w : CmdWord) : isCommand (decodeCmd w) = true := by
  fun_cases decodeCmd w <;> rfl

theorem ne_zero_of_decodeEvt {w : EvtWord} {i : Instr} (h : decodeEvt w = .ok i) : w ≠ 0b000#3 := by
  rintro rfl
  cases h

theorem decodeHook_eq_ok {w : HookWord} {i : Instr} (h : decodeHook w = .ok i) :
    w = 0b01#2 ∧ i = .aciaPoll ∨ w = 0b10#2 ∧ i = .aciaReset := by
  have hw : ∀ w : HookWord, w = 0b00#2 ∨ w = 0b01#2 ∨ w = 0b10#2 ∨ w = 0b11#2 := by decide
  obtain rfl | rfl | rfl | rfl := hw w
  · cases h
  · cases h
    exact .inl ⟨rfl, rfl⟩
  · cases h
    exact .inr ⟨rfl, rfl⟩
  · cases h

/-- All that an operation with a next state can do. -/
inductive ExecCase (s : State) : Instr → State → Prop
  | statusRead (d : Byte) :
      ExecCase s (.aciaSr d)
        { s with
          interruptPending := false
          draws := s.draws + 1
          outputs := s.outputs ++ [.busResult
            (statusByte s.interruptPending (Config.statusRsvd s.draws) (!s.inBuf.isEmpty))] }
  | controlWrite (v : Byte) (m : BufferMode) : ExecCase s (.aciaCw v) (s.setControl v m).applyTerm
  | controlFlush (v : Byte) (m : BufferMode) :
      ExecCase s (.aciaCw v) (s.setControl v m).flush.applyTerm
  | dataReadEmpty (d : Byte) (hb : s.inBuf = []) :
      ExecCase s (.aciaDr d) (s.emit (.busResult 0x00#8))
  | dataRead (d b : Byte) (rest : List Byte) (hb : s.inBuf = b :: rest) :
      ExecCase s (.aciaDr d) ({ s with inBuf := rest, inCur := s.inCur + 1 }.emit (.busResult b))
  | dataWrite (v : Byte)
      (hf : flushes s.cfg.lineTerm s.bufferMode v (s.outBuf.length + 1) = false) :
      ExecCase s (.aciaDw v) { s with outBuf := s.outBuf ++ [v] }
  | dataFlush (v : Byte) : ExecCase s (.aciaDw v) { s with outBuf := s.outBuf ++ [v] }.flush
  | command (i : Instr) (hi : isCommand i = true) : ExecCase s i (s.command (commandBody i))
  | event (i : Instr) (b t r : Bool) (hi : IsEventRow i b t r) : ExecCase s i (s.events b t r)
  | poll : ExecCase s .aciaPoll s.pollAcia
  | reset : ExecCase s .aciaReset s.resetAcia

theorem execCase_aciaCw {s t : State} {v : Byte} (h : exec (.aciaCw v) s = .next t) :
    ExecCase s (.aciaCw v) t := by
  simp only [exec, execAciaCw] at h
  split at h
  · cases h
  · cases h
    split
    · exact .controlFlush v _
    · exact .controlWrite v _

theorem execCase_aciaDr {s t : State} {d : Byte} (h : exec (.aciaDr d) s = .next t) :
    ExecCase s (.aciaDr d) t := by
  simp only [exec, execAciaDr] at h
  split at h
  next hb =>
    cases h
    exact .dataReadEmpty d hb
  next b rest hb =>
    cases h
    exact .dataRead d b rest hb

theorem execCase_aciaDw {s t : State} {v : Byte} (h : exec (.aciaDw v) s = .next t) :
    ExecCase s (.aciaDw v) t := by
  simp only [exec, execAciaDw, List.length_append, List.length_singleton] at h
  cases h
  split
  · exact .dataFlush v
  next hf => exact .dataWrite v (by simpa using hf)

theorem exec_cases {i : Instr} {s t : State} (h : exec i s = .next t) : ExecCase s i t := by
  have command : isCommand i = true → ExecCase s i t := fun hi => by
    rw [exec_command hi] at h
    cases h
    exact .command i hi
  have event : ∀ b t' r, IsEventRow i b t' r → ExecCase s i t := fun b t' r hi => by
    rw [hi.exec_eq] at h
    cases h
    exact .event i b t' r hi
  cases i with
  | aciaSr d => cases h; exact .statusRead d
  | aciaCw v => exact execCase_aciaCw h
  | aciaDr d => exact execCase_aciaDr h
  | aciaDw v => exact execCase_aciaDw h
  | brk t' r => exact event true t' r (.inl ⟨rfl, rfl⟩)
  | tick b r => exact event b true r (.inr (.inl ⟨rfl, rfl⟩))
  | rebootReq b t' => exact event b t' true (.inr (.inr ⟨rfl, rfl⟩))
  | aciaPoll => cases h; exact .poll
  | aciaReset => cases h; exact .reset
  | _ => exact command rfl

/-! ### What the operations leave alone -/

/-- A bus operation writes the ACIA and the outputs only (R61, R72). -/
theorem exec_bus_frame {i : Instr} {s t : State} (hi : isBus i = true) (h : exec i s = .next t) :
    t = { s with
      inBuf := t.inBuf
      inCur := t.inCur
      outBuf := t.outBuf
      bufferMode := t.bufferMode
      interruptEnabled := t.interruptEnabled
      interruptPending := t.interruptPending
      echoEnabled := t.echoEnabled
      outputs := t.outputs
      draws := t.draws } := by
  cases exec_cases h with
  | command _ hc => simp [isBus_eq_false_of_isCommand hc] at hi
  | event _ b t' r he => simp [he.isBus_eq_false] at hi
  | poll => cases hi
  | reset => cases hi
  | _ => rfl

theorem commandBody_stepN_zero (s : State) : commandBody (.stepN 0) s = s := rfl

theorem commandBody_stepN_pos {n : Long} (hn : n ≠ 0) (s : State) :
    commandBody (.stepN n) s = s.startExec (.step n) := s.startStep_pos hn

theorem commandBody_frame (i : Instr) (s : State) :
    commandBody i s =
      { s with
        cycleCounter := (commandBody i s).cycleCounter
        ctl := (commandBody i s).ctl
        watchpoint := (commandBody i s).watchpoint
        termExec := (commandBody i s).termExec
        enginePC := (commandBody i s).enginePC
        autorunPending := (commandBody i s).autorunPending
        rebooting := (commandBody i s).rebooting
        hook := (commandBody i s).hook
        outputs := (commandBody i s).outputs } := by
  cases i with
  | stepN n =>
    by_cases hn : n = 0
    · rw [hn, commandBody_stepN_zero]
    · rw [commandBody_stepN_pos hn]
      rfl
  | _ => rfl

/-- A command writes neither the ACIA nor the timer's window, the tick flag or the engine's flag. -/
theorem State.command_frame (s : State) (i : Instr) :
    s.command (commandBody i) =
      { s with
        cycleCounter := (s.command (commandBody i)).cycleCounter
        breakRequested := (s.command (commandBody i)).breakRequested
        ctl := (s.command (commandBody i)).ctl
        watchpoint := (s.command (commandBody i)).watchpoint
        termExec := (s.command (commandBody i)).termExec
        enginePC := (s.command (commandBody i)).enginePC
        autorunPending := (s.command (commandBody i)).autorunPending
        clearPending := (s.command (commandBody i)).clearPending
        rebooting := (s.command (commandBody i)).rebooting
        hook := (s.command (commandBody i)).hook
        outputs := (s.command (commandBody i)).outputs } := by
  cases hl : s.inCommandLoop
  · rw [s.command_busy _ hl]
  · rw [s.command_taken _ hl]
    have hbody := commandBody_frame i s.beginIteration
    generalize commandBody i s.beginIteration = t at hbody ⊢
    rw [hbody]
    rfl

theorem State.events_frame (s : State) (b t r : Bool) :
    s.events b t r =
      { s with
        window := (s.events b t r).window
        tickFlag := (s.events b t r).tickFlag
        breakRequested := (s.events b t r).breakRequested
        ctl := (s.events b t r).ctl
        rebooting := (s.events b t r).rebooting
        hook := (s.events b t r).hook } := by
  obtain h | ⟨-, -, -, h⟩ | ⟨k, -, -, h⟩ := s.events_cases b t r <;> rw [h] <;> rfl

/-! ### The controller's turn (R163) -/

/-- All that the controller's turn can do. -/
inductive TurnCase (s : State) : State → Prop
  | waits : TurnCase s s
  | reboots (hc : s.ctl = .idle) (hb : s.rebooting = true) : TurnCase s s.finishReboot
  | autoruns (hc : s.ctl = .idle) (hb : s.rebooting = false) (ha : s.autorunPending = true) :
      TurnCase s (s.startExec .run)
  | calls (k : Kind) (hc : s.ctl = .exec k (.batch false)) : TurnCase s (s.callEngine k)
  | counts (k : Kind) (c : Long) (hc : s.ctl = .exec k (.count c)) (hp : 0 < c.toInt) :
      TurnCase s { s with cycleCounter := s.cycleCounter + c.toNat, ctl := .exec k (.throttle c) }
  | fails (k : Kind) (c : Long) (hc : s.ctl = .exec k (.count c)) (hn : c.toInt ≤ 0) :
      TurnCase s { s with ctl := .exec k (.poll (some c)) }
  | unlimited (k : Kind) (c : Long) (hc : s.ctl = .exec k (.throttle c)) (hr : s.rate = 0) :
      TurnCase s { s with ctl := .exec k (.poll none) }
  | underRate (k : Kind) (c : Long) (hc : s.ctl = .exec k (.throttle c))
      (hw : s.window + c.toNat ≤ s.rate.toNat) :
      TurnCase s { s with window := s.window + c.toNat, ctl := .exec k (.poll none) }
  | overRate (k : Kind) (c : Long) (hc : s.ctl = .exec k (.throttle c)) (hr : s.rate ≠ 0)
      (hw : s.rate.toNat < s.window + c.toNat) :
      TurnCase s { s with window := s.window + c.toNat, ctl := .exec k .suspended }
  | strobes (k : Kind) (err : Option Long) (hc : s.ctl = .exec k (.poll err)) :
      TurnCase s { s with hook := some 0b01#2 }
  | faults (k : Kind) (code : Long) (hc : s.ctl = .exec k (.check (some code))) :
      TurnCase s (s.takeEngineError code)
  | stops (k : Kind) (r : RunResult) (hc : s.ctl = .exec k (.check none))
      (hs : s.stopHolds k none) : TurnCase s (s.leaveExec r)
  | again (k : Kind) (hc : s.ctl = .exec k (.check none)) (hs : ¬s.stopHolds k none) :
      TurnCase s (s.nextIteration k.next)

/-- `CHECK` without an error leaves exactly when a stop condition holds (R167, R170, R174). -/
theorem State.checkPhase_none (s : State) (k : Kind) :
    (s.stopHolds k none ∧ ∃ r, s.checkPhase k none = s.leaveExec r) ∨
    (¬s.stopHolds k none ∧ s.checkPhase k none = s.nextIteration k.next) := by
  cases k with
  | run =>
    cases hb : s.breakRequested
    · exact .inr ⟨by simp [State.stopHolds, hb], by simp [State.checkPhase, hb, Kind.next]⟩
    · exact .inl ⟨hb, .brk, by simp [State.checkPhase, hb]⟩
  | runUntil a =>
    cases hb : s.breakRequested
    · by_cases hp : s.enginePC = a
      · exact .inl ⟨.inr hp, .target, by simp [State.checkPhase, hb, hp]⟩
      · exact .inr ⟨by simp [State.stopHolds, hb, hp],
          by simp [State.checkPhase, hb, hp, Kind.next]⟩
    · exact .inl ⟨.inl hb, .brk, by simp [State.checkPhase, hb]⟩
  | step n =>
    by_cases hn : n = 1
    · exact .inl ⟨hn, .brk, by simp [State.checkPhase, hn]⟩
    · exact .inr ⟨hn, if_neg hn⟩

theorem TurnCase.idle {s : State} (hc : s.ctl = .idle) : TurnCase s s.turn := by
  cases hb : s.rebooting with
  | true =>
    rw [State.turn_rebooting hc hb]
    exact .reboots hc hb
  | false =>
    cases ha : s.autorunPending with
    | true =>
      have hturn : s.turn = s.startExec .run := by simp [State.turn, hc, hb, ha]
      exact hturn ▸ .autoruns hc hb ha
    | false =>
      have hturn : s.turn = s := by simp [State.turn, hc, hb, ha]
      exact hturn.symm ▸ .waits

theorem TurnCase.count {s : State} {k : Kind} {c : Long} (hc : s.ctl = .exec k (.count c)) :
    TurnCase s (s.countPhase k c) := by
  by_cases hp : 0 < c.toInt
  · rw [s.countPhase_pos k hp]
    exact .counts k c hc hp
  · rw [s.countPhase_error k (not_lt.mp hp)]
    exact .fails k c hc (not_lt.mp hp)

theorem TurnCase.throttle {s : State} {k : Kind} {c : Long} (hc : s.ctl = .exec k (.throttle c)) :
    TurnCase s (s.throttlePhase k c) := by
  by_cases hr : s.rate = 0
  · rw [s.throttlePhase_unlimited k c hr]
    exact .unlimited k c hc hr
  by_cases hw : s.rate.toNat < s.window + c.toNat
  · rw [s.throttlePhase_over k c hr hw]
    exact .overRate k c hc hr hw
  · rw [s.throttlePhase_under k c hr (not_lt.mp hw)]
    exact .underRate k c hc (not_lt.mp hw)

theorem TurnCase.check {s : State} {k : Kind} {err : Option Long}
    (hc : s.ctl = .exec k (.check err)) : TurnCase s (s.checkPhase k err) := by
  cases err with
  | some code => exact .faults k code hc
  | none =>
    obtain ⟨hs, r, h⟩ | ⟨hs, h⟩ := s.checkPhase_none k <;> rw [h]
    · exact .stops k r hc hs
    · exact .again k hc hs

theorem State.turn_cases (s : State) : TurnCase s s.turn := by
  cases hc : s.ctl with
  | idle => exact .idle hc
  | exec k p =>
    unfold State.turn
    split
    next hi => exact absurd (hc.symm.trans hi) nofun
    next k hc => exact .calls k hc
    next => exact .waits
    next k c hc => exact .count hc
    next k c hc => exact .throttle hc
    next => exact .waits
    next k err hc => exact .strobes k err hc
    next k err hc => exact .check hc

/-- The controller's turn writes neither the ACIA nor the receive stream, the tick flag or the
parameters. -/
theorem State.turn_frame (s : State) :
    s.turn =
      { s with
        cycleCounter := s.turn.cycleCounter
        window := s.turn.window
        breakRequested := s.turn.breakRequested
        ctl := s.turn.ctl
        termExec := s.turn.termExec
        enginePC := s.turn.enginePC
        rebootRequested := s.turn.rebootRequested
        autorunPending := s.turn.autorunPending
        clearPending := s.turn.clearPending
        rebooting := s.turn.rebooting
        hook := s.turn.hook
        outputs := s.turn.outputs
        draws := s.turn.draws } := by
  have h := s.turn_cases
  generalize s.turn = t at h ⊢
  cases h <;> rfl

/-! ### Moves -/

/-- Serving a strobe takes the controller from `POLL` to `CHECK` (R163), or leaves it where it
stands. -/
theorem State.hookServed_cases (s : State) (w : HookWord) :
    s.hookServed w = { s with hook := none } ∨
    ∃ k err, s.ctl = .exec k (.poll err) ∧ w.getLsbD 0 = true ∧
      s.hookServed w = { s with hook := none, ctl := .exec k (.check err) } := by
  cases hc : s.ctl with
  | idle => exact .inl (by simp [State.hookServed, hc])
  | exec k p =>
    cases p with
    | poll err =>
      by_cases hw : w.getLsbD 0 = true
      · have hp : (Phase.poll err).strobed w = .check err := if_pos hw
        exact .inr ⟨k, err, rfl, hw, by simp only [State.hookServed, hc, hp]⟩
      · have hp : (Phase.poll err).strobed w = .poll err := if_neg hw
        exact .inl (by simp only [State.hookServed, hc, hp])
    | _ => exact .inl (by simp [State.hookServed, hc, Phase.strobed])

/-- An operation runs at the state itself, with its word taken off its interface. -/
theorem fetch_run_frame {s u : State} {i : Instr} (h : fetch s = .run i u) :
    u = { s with ctl := u.ctl, hook := none, arrivals := u.arrivals } := by
  obtain ⟨w, -, -, rfl⟩ | ⟨hk, a, later, -, rfl, -⟩ := fetch_run_cases h
  · rfl
  · rw [← hk]

theorem fetch_turn_frame {s u : State} (h : fetch s = .turn u) :
    s.hook = none ∧ ∃ l, u = { s with arrivals := l } := by
  obtain ⟨hk, rfl | ⟨a, later, -, rfl, -⟩⟩ := fetch_turn_cases h
  · exact ⟨hk, u.arrivals, rfl⟩
  · exact ⟨hk, later, rfl⟩

/-- Another agent's move writes neither the ACIA's registers nor the timer. -/
theorem fetch_done_frame {s t : State} (h : fetch s = .done t) :
    t = { s with
      breakRequested := t.breakRequested
      ctl := t.ctl
      enginePC := t.enginePC
      rebootRequested := t.rebootRequested
      hook := t.hook
      rx := t.rx
      arrivals := t.arrivals } := by
  obtain ⟨w, -, rfl⟩ | ⟨-, a, later, -, rfl | ⟨l, -, rfl⟩ | ⟨-, -, rfl⟩ |
    ⟨k, c, pc, rb, -, -, rfl⟩ | ⟨text, -, -, -, rfl⟩⟩ := fetch_done_cases h <;> rfl

/-- A step that runs no operation writes neither the ACIA's registers nor the parameters. -/
theorem step_cases_frame {s t : State} (h : step s = .next t) :
    (∃ i u, fetch s = .run i u ∧ exec i u = .next t) ∨
    t = { s with
      cycleCounter := t.cycleCounter
      window := t.window
      breakRequested := t.breakRequested
      ctl := t.ctl
      termExec := t.termExec
      enginePC := t.enginePC
      rebootRequested := t.rebootRequested
      autorunPending := t.autorunPending
      clearPending := t.clearPending
      rebooting := t.rebooting
      hook := t.hook
      rx := t.rx
      outputs := t.outputs
      arrivals := t.arrivals
      draws := t.draws } := by
  obtain hrun | hdone | ⟨u, hturn, rfl⟩ := step_cases h
  · exact .inl hrun
  · right
    rw [fetch_done_frame hdone]
  · right
    obtain ⟨-, l, rfl⟩ := fetch_turn_frame hturn
    rw [State.turn_frame]

end Sys2Proof.Machine
end

section
/-! The invariant of the block (R24, R26, R29, R36, R164, R200): it speaks of the ACIA and of the
controller apart, and each half is kept by every move. -/

namespace Sys2Proof.Machine

/-- The half of the invariant that speaks of the ACIA. -/
structure State.AciaInv (s : State) : Prop where
  inBufFits : s.inCur + s.inBuf.length ≤ rxCap
  outBufFits : s.outBuf.length < txCap
  pendingEnabled : s.interruptPending = true → s.interruptEnabled = true

/-- The half of the invariant that speaks of the controller. -/
structure State.CtlInv (s : State) : Prop where
  termExecLevel : s.termExec = true ↔ s.ctl ≠ .idle
  autorunIdle : s.autorunPending = true → s.ctl = .idle
  rebootIdle : s.rebooting = true → s.ctl = .idle
  clearLater :
    s.clearPending = true →
      (s.ctl ≠ .idle ∨ s.rebooting = true) ∧ s.cfg.brkClearPoint = .afterDispatch
  ctlSound : s.ctl.sound s.rate s.window
  hookPhase : ∀ w ∈ s.hook,
    w = 0b01#2 ∧ s.ctl.inPoll = true ∨ w = 0b10#2 ∧ s.rebooting = true

theorem State.inv_iff (s : State) : s.Inv ↔ s.AciaInv ∧ s.CtlInv :=
  ⟨fun h => ⟨⟨h.inBufFits, h.outBufFits, h.pendingEnabled⟩,
      ⟨h.termExecLevel, h.autorunIdle, h.rebootIdle, h.clearLater, h.ctlSound, h.hookPhase⟩⟩,
    fun ⟨ha, hc⟩ => ⟨ha.inBufFits, ha.outBufFits, ha.pendingEnabled, hc.termExecLevel,
      hc.autorunIdle, hc.rebootIdle, hc.clearLater, hc.ctlSound, hc.hookPhase⟩⟩

/-! ### The ACIA -/

theorem State.AciaInv.of_sameAcia {s t : State} (h : s.AciaInv) (hs : s.sameAcia t) :
    t.AciaInv := by
  obtain ⟨hin, hcur, hout, -, hen, hpend, -, -⟩ := hs
  exact ⟨hin ▸ hcur ▸ h.inBufFits, hout ▸ h.outBufFits, hen ▸ hpend ▸ h.pendingEnabled⟩

theorem State.command_sameAcia (s : State) (i : Instr) :
    s.sameAcia (s.command (commandBody i)) := by
  rw [s.command_frame i]
  exact ⟨rfl, rfl, rfl, rfl, rfl, rfl, rfl, rfl⟩

theorem State.events_sameAcia (s : State) (b t r : Bool) : s.sameAcia (s.events b t r) := by
  rw [s.events_frame b t r]
  exact ⟨rfl, rfl, rfl, rfl, rfl, rfl, rfl, rfl⟩

/-- A load takes at most `RX_CAP` bytes, and raises the pending flag only with interrupts on. -/
theorem State.AciaInv.load {s : State} (h : s.AciaInv) (l : List Byte) (later : List (List Byte)) :
    (s.load l later).AciaInv := by
  unfold State.load
  split
  · exact ⟨h.inBufFits, h.outBufFits, h.pendingEnabled⟩
  · refine ⟨by simp, h.outBufFits, fun hp => ?_⟩
    obtain hp | he := (Bool.or_eq_true _ _).mp hp
    · exact h.pendingEnabled hp
    · exact he

theorem State.AciaInv.pollAcia {s : State} (h : s.AciaInv) : s.pollAcia.AciaInv := by
  obtain hp | ⟨l, later, -, -, hp⟩ := s.pollAcia_cases <;> rw [hp]
  · exact h
  · exact h.load l later

theorem length_ne_of_not_flushes {term : List Byte} {m : BufferMode} {v : Byte} {n : Nat}
    (h : flushes term m v n = false) : n ≠ txCap := by
  cases m <;> simp_all [flushes]

theorem txCap_pos : 0 < txCap := by decide

theorem exec_keeps_aciaInv {i : Instr} {s t : State} (h : s.AciaInv) (he : exec i s = .next t) :
    t.AciaInv := by
  cases exec_cases he with
  | statusRead d => exact ⟨h.inBufFits, h.outBufFits, nofun⟩
  | controlWrite v m =>
    exact ⟨h.inBufFits, h.outBufFits, fun hp => by simp [State.setControl, h.pendingEnabled hp]⟩
  | controlFlush v m =>
    exact ⟨h.inBufFits, txCap_pos, fun hp => by simp [State.setControl, h.pendingEnabled hp]⟩
  | dataReadEmpty d hb => exact ⟨h.inBufFits, h.outBufFits, h.pendingEnabled⟩
  | dataRead d b rest hb =>
    have hfits : s.inCur + (rest.length + 1) ≤ rxCap := by simpa [hb] using h.inBufFits
    exact ⟨by simp; omega, h.outBufFits, h.pendingEnabled⟩
  | dataWrite v hf =>
    have hlt := Nat.lt_of_le_of_ne h.outBufFits (length_ne_of_not_flushes hf)
    exact ⟨h.inBufFits, by simpa using hlt, h.pendingEnabled⟩
  | dataFlush v => exact ⟨h.inBufFits, txCap_pos, h.pendingEnabled⟩
  | command i hi => exact h.of_sameAcia (s.command_sameAcia i)
  | event i b t' r hi => exact h.of_sameAcia (s.events_sameAcia b t' r)
  | poll => exact h.pollAcia
  | reset => exact ⟨Nat.zero_le _, txCap_pos, nofun⟩

theorem step_keeps_aciaInv {s t : State} (h : s.AciaInv) (hs : step s = .next t) : t.AciaInv := by
  obtain ⟨i, u, hf, he⟩ | hother := step_cases_frame hs
  · refine exec_keeps_aciaInv ?_ he
    rw [fetch_run_frame hf]
    exact ⟨h.inBufFits, h.outBufFits, h.pendingEnabled⟩
  · rw [hother]
    exact ⟨h.inBufFits, h.outBufFits, h.pendingEnabled⟩

/-! ### The controller -/

/-- The controller's half says nothing of the ACIA, the streams, the engine, the counter and the
flags. -/
theorem State.CtlInv.of_samePosition {s t : State} (h : s.CtlInv)
    (ht : t = { s with
      inBuf := t.inBuf
      inCur := t.inCur
      outBuf := t.outBuf
      bufferMode := t.bufferMode
      interruptEnabled := t.interruptEnabled
      interruptPending := t.interruptPending
      echoEnabled := t.echoEnabled
      cycleCounter := t.cycleCounter
      tickFlag := t.tickFlag
      breakRequested := t.breakRequested
      watchpoint := t.watchpoint
      enginePC := t.enginePC
      rebootRequested := t.rebootRequested
      rx := t.rx
      outputs := t.outputs
      arrivals := t.arrivals
      draws := t.draws }) : t.CtlInv := by
  rw [ht]
  exact ⟨h.termExecLevel, h.autorunIdle, h.rebootIdle, h.clearLater, h.ctlSound, h.hookPhase⟩

theorem State.CtlInv.noStrobe {s : State} (h : s.CtlInv) :
    ({ s with hook := none } : State).CtlInv :=
  ⟨h.termExecLevel, h.autorunIdle, h.rebootIdle, h.clearLater, h.ctlSound, nofun⟩

/-- Entry to an execution operation (R163, R164). -/
theorem State.CtlInv.startExec {s : State} {k : Kind} (hk : k.sound) (hook : s.hook = none)
    (hr : s.rebooting = false)
    (hclear : s.clearPending = true → s.cfg.brkClearPoint = .afterDispatch) :
    (s.startExec k).CtlInv where
  termExecLevel := by simp [State.startExec]
  autorunIdle := nofun
  rebootIdle := fun h => absurd (hr.symm.trans h) nofun
  clearLater := fun h => ⟨.inl nofun, hclear h⟩
  ctlSound := ⟨hk, trivial⟩
  hookPhase := by simp [hook]

theorem State.CtlInv.kindSound {s : State} {k : Kind} {p : Phase} (h : s.CtlInv)
    (hc : s.ctl = .exec k p) : k.sound :=
  And.left (show (Ctl.exec k p).sound s.rate s.window from hc ▸ h.ctlSound)

theorem State.CtlInv.phaseSound {s : State} {k : Kind} {p : Phase} (h : s.CtlInv)
    (hc : s.ctl = .exec k p) : p.sound s.rate s.window :=
  And.right (show (Ctl.exec k p).sound s.rate s.window from hc ▸ h.ctlSound)

theorem Phase.sound_poll_none (rate : Long) (window : Nat) :
    (Phase.poll none).sound rate window := by
  simp [Phase.sound]

/-- A move to another position inside an execution operation. -/
theorem State.CtlInv.moved {s : State} {k₀ k : Kind} {p₀ p : Phase} {w : Nat} (h : s.CtlInv)
    (hc : s.ctl = .exec k₀ p₀) (hook : s.hook = none) (hk : k.sound) (hp : p.sound s.rate w) :
    ({ s with window := w, ctl := .exec k p } : State).CtlInv where
  termExecLevel := by simpa [hc] using h.termExecLevel
  autorunIdle := fun ha => absurd (hc.symm.trans (h.autorunIdle ha)) nofun
  rebootIdle := fun hr => absurd (hc.symm.trans (h.rebootIdle hr)) nofun
  clearLater := fun hp => ⟨.inl nofun, (h.clearLater hp).2⟩
  ctlSound := ⟨hk, hp⟩
  hookPhase := by simp [hook]

/-- `EXIT` (R163). -/
theorem State.CtlInv.leaveExec {s : State} (hook : s.hook = none) (r : RunResult) :
    (s.leaveExec r).CtlInv where
  termExecLevel := by simp [State.leaveExec]
  autorunIdle := fun _ => rfl
  rebootIdle := fun _ => rfl
  clearLater := nofun
  ctlSound := trivial
  hookPhase := by simp [hook]

theorem State.CtlInv.beginReboot {s : State} (h : s.CtlInv) (hc : s.ctl = .idle) :
    s.beginReboot.CtlInv where
  termExecLevel := h.termExecLevel
  autorunIdle := h.autorunIdle
  rebootIdle := fun _ => hc
  clearLater := fun hp => ⟨.inr rfl, (h.clearLater hp).2⟩
  ctlSound := h.ctlSound
  hookPhase := fun _ hw => .inr ⟨(Option.some.inj hw).symm, rfl⟩

theorem State.CtlInv.endDispatch {s : State} (h : s.CtlInv) : s.endDispatch.CtlInv where
  termExecLevel := h.termExecLevel
  autorunIdle := h.autorunIdle
  rebootIdle := h.rebootIdle
  clearLater := fun hp => by
    obtain hp | ⟨hafter, hbusy⟩ : s.clearPending = true ∨
        s.cfg.brkClearPoint = .afterDispatch ∧ s.inCommandLoop = false := by simpa using hp
    · exact h.clearLater hp
    · exact ⟨s.inCommandLoop_eq_false.mp hbusy, hafter⟩
  ctlSound := h.ctlSound
  hookPhase := h.hookPhase

theorem State.CtlInv.commandBody {s : State} (h : s.CtlInv) (hook : s.hook = none)
    (hl : s.inCommandLoop = true) (i : Instr) : (commandBody i s).CtlInv := by
  obtain ⟨hc, hr⟩ := s.inCommandLoop_eq_true.mp hl
  have start (u : State) (k : Kind) (hk : k.sound)
      (hu : u = { s with enginePC := u.enginePC }) : (u.startExec k).CtlInv := by
    rw [hu]
    exact .startExec hk hook hr fun hp => (h.clearLater hp).2
  cases i with
  | run _ => exact start s .run trivial rfl
  | goAt _ addr => exact start { s with enginePC := addr } .run trivial rfl
  | runUntil _ target => exact start s (.runUntil target) trivial rfl
  | step1 _ => exact start s (.step 1) (show (1 : Long) ≠ 0 by decide) rfl
  | stepN n =>
    by_cases hn : n = 0
    · rw [hn, commandBody_stepN_zero]
      exact h
    · rw [commandBody_stepN_pos hn]
      exact start s (.step n) hn rfl
  | reboot _ _ => exact h.beginReboot hc
  | _ => exact h.of_samePosition rfl

theorem State.CtlInv.command {s : State} (h : s.CtlInv) (hook : s.hook = none) (i : Instr) :
    (s.command (Machine.commandBody i)).CtlInv := by
  cases hl : s.inCommandLoop with
  | false =>
    rw [s.command_busy _ hl]
    exact h
  | true =>
    rw [s.command_taken _ hl]
    have hbegin : s.beginIteration.CtlInv := h.of_samePosition rfl
    exact (hbegin.commandBody hook hl i).endDispatch

theorem State.CtlInv.events {s : State} (h : s.CtlInv) (hook : s.hook = none) (b t r : Bool) :
    (s.events b t r).CtlInv := by
  have hflags : (s.setEventFlags b t).CtlInv := h.of_samePosition rfl
  obtain he | ⟨hc, -, -, he⟩ | ⟨k, hc, -, he⟩ := s.events_cases b t r <;> rw [he]
  · exact hflags
  · exact hflags.beginReboot hc
  · exact (hflags.moved hc hook (h.kindSound hc) (Phase.sound_poll_none _ _)).of_samePosition rfl

theorem exec_keeps_ctlInv {i : Instr} {s t : State} (h : s.CtlInv) (hook : s.hook = none)
    (he : exec i s = .next t) : t.CtlInv := by
  cases exec_cases he with
  | command i hi => exact h.command hook i
  | event i b t' r hi => exact h.events hook b t' r
  | poll =>
    rw [s.pollAcia_frame]
    exact h.of_samePosition rfl
  | _ => exact h.of_samePosition rfl

/-- A served strobe leaves no strobe, whether or not the controller goes on. -/
theorem State.CtlInv.hookServed {s : State} (h : s.CtlInv) (w : HookWord) :
    (s.hookServed w).CtlInv := by
  obtain hs | ⟨k, err, hc, -, hs⟩ := s.hookServed_cases w <;> rw [hs]
  · exact h.noStrobe
  · exact h.noStrobe.moved hc rfl (h.kindSound hc) (h.phaseSound hc :)

theorem Kind.next_sound {s : State} {k : Kind} (hs : ¬s.stopHolds k none) : k.next.sound := by
  cases k with
  | step n =>
    have hn : n ≠ 1 := hs
    exact sub_ne_zero.mpr hn
  | _ => trivial

theorem turn_keeps_ctlInv {s : State} (h : s.CtlInv) (hook : s.hook = none) : s.turn.CtlInv := by
  have hclear : s.clearPending = true → s.cfg.brkClearPoint = .afterDispatch :=
    fun hp => (h.clearLater hp).2
  have ht := s.turn_cases
  generalize s.turn = t at ht ⊢
  cases ht with
  | waits => exact h
  | reboots hc hb => exact .startExec trivial hook rfl hclear
  | autoruns hc hb ha => exact .startExec trivial hook hb hclear
  | calls k hc =>
    exact (h.moved hc hook (p := .batch true) (h.kindSound hc) trivial).of_samePosition rfl
  | counts k c hc hp =>
    exact (h.moved hc hook (p := .throttle c) (h.kindSound hc) hp).of_samePosition rfl
  | fails k c hc hn => exact h.moved hc hook (h.kindSound hc) (by simpa [Phase.sound] using hn)
  | unlimited k c hc hr => exact h.moved hc hook (h.kindSound hc) (Phase.sound_poll_none _ _)
  | underRate k c hc hw => exact h.moved hc hook (h.kindSound hc) (Phase.sound_poll_none _ _)
  | overRate k c hc hr hw => exact h.moved hc hook (h.kindSound hc) ⟨hr, hw⟩
  | strobes k err hc =>
    exact { h with
      hookPhase := fun _ hw => .inl ⟨(Option.some.inj hw).symm, by simp [hc, Ctl.inPoll]⟩ }
  | faults k code hc =>
    exact .leaveExec (s := { s with breakRequested := true }) hook (.engineError code)
  | stops k r hc hs => exact .leaveExec hook r
  | again k hc hs => exact h.moved hc hook (p := .batch false) (Kind.next_sound hs) trivial

theorem done_keeps_ctlInv {s t : State} (h : s.CtlInv) (hd : fetch s = .done t) : t.CtlInv := by
  obtain ⟨w, -, rfl⟩ | ⟨hook, a, later, -, rfl | ⟨l, -, rfl⟩ | ⟨-, -, rfl⟩ |
    ⟨k, c, pc, rb, -, hin, rfl⟩ | ⟨text, -, -, -, rfl⟩⟩ := fetch_done_cases hd
  · exact h.noStrobe
  · exact h.of_samePosition rfl
  · exact h.of_samePosition rfl
  · exact h.of_samePosition rfl
  · have hc := insideBatch_eq_some.mp hin
    exact (h.moved hc hook (p := .count c) (h.kindSound hc) trivial).of_samePosition rfl
  · exact h.of_samePosition rfl

theorem run_keeps_ctlInv {s u : State} {i : Instr} (h : s.CtlInv) (hf : fetch s = .run i u) :
    u.CtlInv := by
  obtain ⟨w, -, -, rfl⟩ | ⟨-, a, later, -, rfl, -⟩ := fetch_run_cases hf
  · exact h.hookServed w
  · exact h.of_samePosition rfl

theorem step_keeps_ctlInv {s t : State} (h : s.CtlInv) (hs : step s = .next t) : t.CtlInv := by
  obtain ⟨i, u, hf, he⟩ | hd | ⟨u, hf, rfl⟩ := step_cases hs
  · exact exec_keeps_ctlInv (run_keeps_ctlInv h hf) (congrArg State.hook (fetch_run_frame hf)) he
  · exact done_keeps_ctlInv h hd
  · obtain ⟨hook, l, rfl⟩ := fetch_turn_frame hf
    exact turn_keeps_ctlInv (h.of_samePosition rfl) hook

/-! ### The obligations -/

/-- Settles O45: the two halves of the invariant are kept apart, each move by move. -/
theorem stepKeepsInv : Obligations.StepKeepsInv := by
  intro s t h hs
  obtain ⟨hacia, hctl⟩ := s.inv_iff.mp h
  exact t.inv_iff.mpr ⟨step_keeps_aciaInv hacia hs, step_keeps_ctlInv hctl hs⟩

/-- Settles O44: the buffers are empty, the flags are false, and `ctl` is `IDLE`. -/
theorem invAfterPowerOn : Obligations.InvAfterPowerOn := by
  intro p r a
  refine (State.inv_iff _).mpr ⟨⟨Nat.zero_le _, txCap_pos, nofun⟩, ?_⟩
  exact {
    termExecLevel := ⟨nofun, fun h => absurd rfl h⟩
    autorunIdle := fun _ => rfl
    rebootIdle := nofun
    clearLater := nofun
    ctlSound := trivial
    hookPhase := nofun }

end Sys2Proof.Machine
end

section
/-! What moves the controller (R163), what begins a reboot sequence (R179, R180), and what takes the
break flag away (R162, R180): each by the interface the operation's word stands on. -/

namespace Sys2Proof.Machine

/-- All that a word on an interface can do to the controller. -/
inductive WordCase (s : State) (i : Instr) (t : State) : Prop
  | strobe (w : HookWord) (hook : s.hook = some w)
      (ht : t = { s.hookServed w with
        inBuf := t.inBuf
        inCur := t.inCur
        outBuf := t.outBuf
        bufferMode := t.bufferMode
        interruptEnabled := t.interruptEnabled
        interruptPending := t.interruptPending
        echoEnabled := t.echoEnabled
        rx := t.rx
        outputs := t.outputs })
  | event (w : EvtWord) (later : List Arrival) (ha : s.arrivals = .evt w :: later)
      (ht : t = { s with arrivals := later }.events (w.getLsbD 0) (w.getLsbD 1) (w.getLsbD 2))
  | access
      (ht : t = { s with
        inBuf := t.inBuf
        inCur := t.inCur
        outBuf := t.outBuf
        bufferMode := t.bufferMode
        interruptEnabled := t.interruptEnabled
        interruptPending := t.interruptPending
        echoEnabled := t.echoEnabled
        outputs := t.outputs
        arrivals := t.arrivals
        draws := t.draws })
  | command (hook : s.hook = none) (hp : s.atPrompt = true) (a : Arrival) (later : List Arrival)
      (ha : s.arrivals = a :: later) (hcmd : (∃ w, a = .cmd w) ∨ ∃ text, a = .line text)
      (ht : t = { s with arrivals := later }.command (commandBody i))

theorem word_cases {s u t : State} {i : Instr} (hf : fetch s = .run i u)
    (he : exec i u = .next t) : WordCase s i t := by
  obtain ⟨w, hook, hd, rfl⟩ | ⟨hook, a, later, ha, rfl, ⟨w, rfl, hd⟩ |
    ⟨w, rfl, m, r, ad, d, rfl, -, -⟩ | ⟨hp, w, rfl, hcmd⟩⟩ := fetch_run_cases hf
  · obtain ⟨-, rfl⟩ | ⟨-, rfl⟩ := decodeHook_eq_ok hd <;> cases he
    · exact .strobe w hook (by rw [State.pollAcia_frame])
    · exact .strobe w hook rfl
  · obtain ⟨i', hd', hi⟩ := decodeEvt_isEventRow (ne_zero_of_decodeEvt hd)
    cases hd'.symm.trans hd
    rw [hi.exec_eq] at he
    cases he
    exact .event w later ha rfl
  · exact .access (by rw [exec_bus_frame (isBus_decodeBus w) he])
  · rw [exec_command (isCommand_decodeCmd w)] at he
    cases he
    exact .command hook hp a later ha
      (hcmd.imp (fun h => ⟨w, h⟩) fun ⟨text, h, _⟩ => ⟨text, h⟩) rfl

/-! ### The table of transitions (R163) -/

theorem commandBody_ctl (i : Instr) (s : State) :
    startOf i = some (commandBody i s).ctl ∧ (commandBody i s).termExec = true ∨
    (commandBody i s).ctl = s.ctl := by
  cases i with
  | stepN n =>
    by_cases hn : n = 0
    · exact .inr (by rw [hn, commandBody_stepN_zero])
    · exact .inl (by rw [commandBody_stepN_pos hn]; exact ⟨if_neg hn, rfl⟩)
  | run _ => exact .inl ⟨rfl, rfl⟩
  | goAt _ _ => exact .inl ⟨rfl, rfl⟩
  | runUntil _ _ => exact .inl ⟨rfl, rfl⟩
  | step1 _ => exact .inl ⟨rfl, rfl⟩
  | _ => exact .inr rfl

theorem State.command_ctl (s : State) (i : Instr) :
    startOf i = some (s.command (commandBody i)).ctl ∧
      (s.command (commandBody i)).termExec = true ∨
    (s.command (commandBody i)).ctl = s.ctl := by
  cases hl : s.inCommandLoop with
  | false =>
    rw [s.command_busy _ hl]
    exact .inr rfl
  | true =>
    rw [s.command_taken _ hl]
    exact commandBody_ctl i s.beginIteration

theorem word_follows_table {s u t : State} {i : Instr} (hf : fetch s = .run i u)
    (he : exec i u = .next t) : t.ctl = s.ctl ∨ CtlRow s t := by
  cases word_cases hf he with
  | strobe w hook ht =>
    have hctl := congrArg State.ctl ht
    obtain hs | ⟨k, err, hc, hw, hs⟩ := s.hookServed_cases w <;> rw [hs] at hctl
    · exact .inl hctl
    · exact .inr (.polled k err w hc hook hw hctl)
  | event w later ha ht =>
    subst ht
    obtain h | ⟨-, -, -, h⟩ | ⟨k, hc, hw, h⟩ := State.events_cases { s with arrivals := later }
      (w.getLsbD 0) (w.getLsbD 1) (w.getLsbD 2) <;> rw [h]
    · exact .inl rfl
    · exact .inl rfl
    · exact .inr (.woken k w hc (by rw [ha]; rfl) ((Bool.or_eq_true _ _).mp hw) rfl)
  | access ht => exact .inl (congrArg State.ctl ht :)
  | command _ hp a later _ _ ht =>
    subst ht
    obtain ⟨hstart, hterm⟩ | h := State.command_ctl { s with arrivals := later } i
    · exact .inr (.command i u hp hf hstart hterm)
    · exact .inl h

theorem turn_follows_table {s : State} (hook : s.hook = none) (l : List Arrival) :
    ({ s with arrivals := l } : State).turn.ctl = s.ctl ∨
      CtlRow s ({ s with arrivals := l } : State).turn := by
  have ht := State.turn_cases { s with arrivals := l }
  generalize ({ s with arrivals := l } : State).turn = t at ht ⊢
  cases ht with
  | waits => exact .inl rfl
  | reboots hc hb => exact .inr (.rebooted hc hb hook rfl rfl rfl)
  | autoruns hc hb ha => exact .inr (.autorun hc hb ha rfl rfl)
  | calls k hc => exact .inr (.call k hc rfl)
  | counts k c hc hp => exact .inr (.counted k c hc hp rfl)
  | fails k c hc hn => exact .inr (.failed k c hc hn rfl)
  | unlimited k c hc hr => exact .inr (.underRate k c hc (.inl hr) rfl)
  | underRate k c hc hw => exact .inr (.underRate k c hc (.inr hw) rfl)
  | overRate k c hc hr hw => exact .inr (.overRate k c hc hr hw rfl)
  | strobes k err hc => exact .inl rfl
  | faults k code hc => exact .inr (.stopped k (some code) hc trivial rfl rfl)
  | stops k r hc hs => exact .inr (.stopped k none hc hs rfl rfl)
  | again k hc hs => exact .inr (.again k none hc hs rfl)

theorem done_follows_table {s t : State} (hd : fetch s = .done t) :
    t.ctl = s.ctl ∨ CtlRow s t := by
  obtain ⟨w, -, rfl⟩ | ⟨-, a, later, ha, rfl | ⟨l, -, rfl⟩ | ⟨-, -, rfl⟩ |
    ⟨k, c, pc, rb, rfl, hin, rfl⟩ | ⟨text, -, -, -, rfl⟩⟩ := fetch_done_cases hd
  · exact .inl rfl
  · exact .inl rfl
  · exact .inl rfl
  · exact .inl rfl
  · exact .inr (.returned k c pc rb (insideBatch_eq_some.mp hin) (by rw [ha]; rfl) rfl)
  · exact .inl rfl

theorem step_follows_table {s t : State} (h : step s = .next t) : t.ctl = s.ctl ∨ CtlRow s t := by
  obtain ⟨i, u, hf, he⟩ | hd | ⟨u, hf, rfl⟩ := step_cases h
  · exact word_follows_table hf he
  · exact done_follows_table hd
  · obtain ⟨hook, l, rfl⟩ := fetch_turn_frame hf
    exact turn_follows_table hook l

/-! ### What begins a reboot sequence (R179, R180) -/

theorem commandBody_rebooting (i : Instr) (s : State) :
    (commandBody i s).rebooting = s.rebooting ∨ ∃ hasArg arg, i = .reboot hasArg arg := by
  cases i with
  | reboot hasArg arg => exact .inr ⟨hasArg, arg, rfl⟩
  | stepN n =>
    by_cases hn : n = 0
    · exact .inl (by rw [hn, commandBody_stepN_zero])
    · exact .inl (by rw [commandBody_stepN_pos hn]; rfl)
  | _ => exact .inl rfl

theorem State.command_rebooting (s : State) (i : Instr) :
    (s.command (commandBody i)).rebooting = s.rebooting ∨ ∃ hasArg arg, i = .reboot hasArg arg := by
  cases hl : s.inCommandLoop with
  | false => exact .inl (by rw [s.command_busy _ hl])
  | true =>
    rw [s.command_taken _ hl]
    exact commandBody_rebooting i s.beginIteration

theorem word_begins_reboot {s u t : State} {i : Instr} (hf : fetch s = .run i u)
    (he : exec i u = .next t) : t.rebooting = s.rebooting ∨ s.rebootBegins := by
  cases word_cases hf he with
  | strobe w _ ht => exact .inl (congrArg State.rebooting ht :)
  | event w later ha ht =>
    subst ht
    obtain h | ⟨hc, -, hask, -⟩ | ⟨k, -, -, h⟩ := State.events_cases { s with arrivals := later }
      (w.getLsbD 0) (w.getLsbD 1) (w.getLsbD 2)
    · exact .inl (by rw [h]; rfl)
    · exact .inr (.inr ⟨hc, w, later, ha, hask⟩)
    · exact .inl (by rw [h]; rfl)
  | access ht => exact .inl (congrArg State.rebooting ht :)
  | command _ hp a later _ _ ht =>
    subst ht
    obtain h | ⟨hasArg, arg, rfl⟩ := State.command_rebooting { s with arrivals := later } i
    · exact .inl h
    · exact .inr (.inl ⟨hp, hasArg, arg, u, hf⟩)

theorem State.rebooting_of_turn {s : State} (h : s.turn.rebooting = true) : s.rebooting = true := by
  have ht := s.turn_cases
  generalize s.turn = t at ht h
  cases ht with
  | reboots hc hb => exact hb
  | _ => exact h

theorem step_begins_reboot {s t : State} (h : step s = .next t) (hb : t.rebooting = true) :
    s.rebooting = true ∨ s.rebootBegins := by
  obtain ⟨i, u, hf, he⟩ | hd | ⟨u, hf, rfl⟩ := step_cases h
  · exact (word_begins_reboot hf he).imp_left fun hr => hr.symm.trans hb
  · exact .inl ((congrArg State.rebooting (fetch_done_frame hd)).symm.trans hb)
  · obtain ⟨-, l, rfl⟩ := fetch_turn_frame hf
    exact .inl (State.rebooting_of_turn hb :)

/-! ### What takes the break flag away (R162, R180) -/

theorem State.events_breakRequested (s : State) (b t r : Bool) :
    (s.events b t r).breakRequested = (s.breakRequested || b) := by
  obtain h | ⟨-, -, -, h⟩ | ⟨k, -, -, h⟩ := s.events_cases b t r <;> rw [h] <;> rfl

/-- The controller's turn clears the flag at an exit that an iteration has left its clear to, and at
the end of the reboot sequence. -/
theorem State.turn_breakRequested {s : State} (h : s.breakRequested = true) :
    s.turn.breakRequested = true ∨
    (s.clearPending = true ∧ s.turn.ctl = .idle ∧ s.turn.clearPending = false) ∨
    (s.ctl = .idle ∧ s.rebooting = true ∧ s.turn.ctl = .exec .run (.batch false)) := by
  have ht := s.turn_cases
  generalize s.turn = t at ht ⊢
  cases ht with
  | reboots hc hb => exact .inr (.inr ⟨hc, hb, rfl⟩)
  | calls k hc =>
    cases k with
    | step _ => exact .inl rfl
    | _ => exact .inl h
  | faults k code hc =>
    cases hp : s.clearPending
    · exact .inl (by simp [hp])
    · exact .inr (.inl ⟨rfl, rfl, rfl⟩)
  | stops k r hc hs =>
    cases hp : s.clearPending
    · exact .inl (by simp [h, hp])
    · exact .inr (.inl ⟨rfl, rfl, rfl⟩)
  | _ => exact .inl h

/-! ### The obligations -/

/-- Settles O42: each move of `ctl` is a row of the table, by the word, the agent or the turn that
makes it. -/
theorem controllerFollowsTable : Obligations.ControllerFollowsTable :=
  fun _ _ h => ⟨step_follows_table h, step_begins_reboot h⟩

/-- Settles O60: of the words only a command, of the other agents' moves only a console line, and of
the turns only an exit and the end of the reboot sequence clear the flag. -/
theorem breakClearedOnlyByIterationOrReboot : Obligations.BreakClearedOnlyByIterationOrReboot := by
  intro s t h hb
  obtain ⟨i, u, hf, he⟩ | hd | ⟨u, hf, rfl⟩ := step_cases h
  · cases word_cases hf he with
    | strobe w _ ht => exact .inl ((congrArg State.breakRequested ht).trans hb)
    | event w later _ ht =>
      subst ht
      exact .inl (by rw [State.events_breakRequested, hb]; rfl)
    | access ht => exact .inl ((congrArg State.breakRequested ht).trans hb)
    | command hook hp a later ha hcmd _ => exact .inr (.inl ⟨hook, hp, a, later, ha, hcmd⟩)
  · obtain ⟨w, -, rfl⟩ | ⟨hook, a, later, ha, rfl | ⟨l, -, rfl⟩ | ⟨-, -, rfl⟩ |
      ⟨k, c, pc, rb, -, -, rfl⟩ | ⟨text, hline, hp, -, -⟩⟩ := fetch_done_cases hd
    · exact .inl hb
    · exact .inl hb
    · exact .inl hb
    · exact .inl hb
    · exact .inl hb
    · exact .inr (.inl ⟨hook, hp, a, later, ha, .inr ⟨text, hline⟩⟩)
  · obtain ⟨-, l, rfl⟩ := fetch_turn_frame hf
    exact (State.turn_breakRequested (s := { s with arrivals := l }) hb).imp_right .inr

end Sys2Proof.Machine
end

section
/-! What every step keeps of single elements of the state: the parameters, the counter, the ACIA's
flags, the two streams and the outputs (R22, R42). -/

namespace Sys2Proof.Machine

/-! ### Outputs that transmit nothing (R42) -/

/-- Outputs are added, none of them to the transmit stream. -/
def State.AddsNoTx (s t : State) : Prop :=
  ∃ l, t.outputs = s.outputs ++ l ∧ l.flatMap Output.txBytes = []

theorem State.AddsNoTx.of_same {s t : State} (h : t.outputs = s.outputs) : s.AddsNoTx t :=
  ⟨[], by rw [h, List.append_nil], rfl⟩

theorem State.AddsNoTx.of_output {s t : State} {o : Output} (h : t.outputs = s.outputs ++ [o])
    (ho : o.txBytes = []) : s.AddsNoTx t :=
  ⟨[o], h, by simp [ho]⟩

theorem State.AddsNoTx.outputs_grow {s t : State} (h : s.AddsNoTx t) : s.outputs <+: t.outputs := by
  obtain ⟨l, hl, -⟩ := h
  exact ⟨l, hl.symm⟩

theorem State.AddsNoTx.tx_eq {s t : State} (h : s.AddsNoTx t) : t.tx = s.tx := by
  obtain ⟨l, hl, hnone⟩ := h
  rw [State.tx, hl, List.flatMap_append, hnone, List.append_nil, ← State.tx]

theorem commandBody_addsNoTx (i : Instr) (s : State) : s.AddsNoTx (commandBody i s) := by
  cases i with
  | ctrRead _ => exact .of_output rfl rfl
  | stepN n =>
    by_cases hn : n = 0
    · rw [hn, commandBody_stepN_zero]
      exact .of_same rfl
    · rw [commandBody_stepN_pos hn]
      exact .of_same rfl
  | _ => exact .of_same rfl

theorem State.command_addsNoTx (s : State) (i : Instr) :
    s.AddsNoTx (s.command (commandBody i)) := by
  cases hl : s.inCommandLoop with
  | false =>
    rw [s.command_busy _ hl]
    exact .of_same rfl
  | true =>
    rw [s.command_taken _ hl]
    exact commandBody_addsNoTx i s.beginIteration

theorem State.events_addsNoTx (s : State) (b t r : Bool) : s.AddsNoTx (s.events b t r) :=
  .of_same (congrArg State.outputs (s.events_frame b t r) :)

theorem State.load_addsNoTx (s : State) (l : List Byte) (later : List (List Byte)) :
    s.AddsNoTx (s.load l later) := by
  unfold State.load
  split
  · exact .of_same rfl
  · cases he : s.interruptEnabled
    · exact .of_same (by simp)
    · exact .of_output (o := .irqPulse) (by simp) rfl

theorem State.pollAcia_addsNoTx (s : State) : s.AddsNoTx s.pollAcia := by
  obtain h | ⟨l, later, -, -, h⟩ := s.pollAcia_cases <;> rw [h]
  · exact .of_same rfl
  · exact s.load_addsNoTx l later

theorem State.turn_addsNoTx (s : State) : s.AddsNoTx s.turn := by
  have ht := s.turn_cases
  generalize s.turn = t at ht ⊢
  cases ht with
  | reboots => exact .of_output rfl rfl
  | calls => exact .of_output rfl rfl
  | faults => exact .of_output rfl rfl
  | stops => exact .of_output rfl rfl
  | _ => exact .of_same rfl

/-- A step that runs no operation transmits nothing. -/
theorem step_cases_addsNoTx {s t : State} (h : step s = .next t) :
    (∃ i u, fetch s = .run i u ∧ exec i u = .next t) ∨ s.AddsNoTx t := by
  obtain hrun | hd | ⟨u, hf, rfl⟩ := step_cases h
  · exact .inl hrun
  · exact .inr (.of_same (congrArg State.outputs (fetch_done_frame hd) :))
  · obtain ⟨-, l, rfl⟩ := fetch_turn_frame hf
    exact .inr (State.turn_addsNoTx { s with arrivals := l } :)

/-! ### The transmit side (R120, R123) -/

theorem written_eq_nil {i : Instr} (hi : isBus i = false) : written i = [] := by
  cases i with
  | aciaDw v => cases hi
  | _ => rfl

theorem State.AddsNoTx.sent {s t : State} {i : Instr} (h : s.AddsNoTx t) (hb : t.outBuf = s.outBuf)
    (hw : written i = []) : t.tx ++ t.outBuf = s.tx ++ s.outBuf ++ written i := by
  rw [h.tx_eq, hb, hw, List.append_nil]

/-- The bytes sent and the bytes waiting, over each operation. -/
theorem exec_sent {i : Instr} {s t : State} (he : exec i s = .next t) :
    t.tx ++ t.outBuf = s.tx ++ s.outBuf ++ written i ∨
    (i = .aciaReset ∧ t.tx = s.tx ∧ t.outBuf = []) := by
  cases exec_cases he with
  | statusRead d => exact .inl (State.AddsNoTx.sent (.of_output rfl rfl) rfl rfl)
  | controlWrite v m => exact .inl (State.AddsNoTx.sent (.of_output rfl rfl) rfl rfl)
  | controlFlush v m =>
    exact .inl (by simp [State.tx, State.applyTerm, State.setControl, written, Output.txBytes])
  | dataReadEmpty d hb => exact .inl (State.AddsNoTx.sent (.of_output rfl rfl) rfl rfl)
  | dataRead d b rest hb => exact .inl (State.AddsNoTx.sent (.of_output rfl rfl) rfl rfl)
  | dataWrite v hf => exact .inl (List.append_assoc s.tx s.outBuf [v]).symm
  | dataFlush v => exact .inl (by simp [State.tx, written, Output.txBytes])
  | command i hi =>
    exact .inl ((s.command_addsNoTx i).sent (congrArg State.outBuf (s.command_frame i) :)
      (written_eq_nil (isBus_eq_false_of_isCommand hi)))
  | event i b t' r hi =>
    exact .inl ((s.events_addsNoTx b t' r).sent (congrArg State.outBuf (s.events_frame b t' r) :)
      (written_eq_nil hi.isBus_eq_false))
  | poll => exact .inl (s.pollAcia_addsNoTx.sent (congrArg State.outBuf s.pollAcia_frame :) rfl)
  | reset => exact .inr ⟨rfl, rfl, rfl⟩

theorem exec_outputs_grow {i : Instr} {s t : State} (he : exec i s = .next t) :
    s.outputs <+: t.outputs := by
  cases exec_cases he with
  | controlFlush v m => exact ⟨[_, _], (List.append_assoc _ [_] [_]).symm⟩
  | dataWrite v hf => exact ⟨[], List.append_nil _⟩
  | command i hi => exact (s.command_addsNoTx i).outputs_grow
  | event i b t' r hi => exact (s.events_addsNoTx b t' r).outputs_grow
  | poll => exact s.pollAcia_addsNoTx.outputs_grow
  | reset => exact ⟨[], List.append_nil _⟩
  | _ => exact ⟨[_], rfl⟩

/-! ### The receive side (R117, R118, R125) -/

theorem State.popped_eq_nil (s : State) {i : Instr} (hi : isBus i = false) : s.popped i = [] := by
  cases i with
  | aciaDr d => cases hi
  | _ => rfl

/-- A poll moves bytes from the stream to `inBuf` and loses none (R127). -/
theorem State.pollAcia_received (s : State) :
    s.pollAcia.inBuf ++ s.pollAcia.rx.flatten = s.inBuf ++ s.rx.flatten := by
  obtain h | ⟨l, later, hb, hr, h⟩ := s.pollAcia_cases <;> rw [h]
  rw [hb, hr]
  by_cases h0 : l = []
  · simp [h0, State.load_nothing, hb]
  by_cases hl : l.length ≤ rxCap
  · simp [s.load_fits later h0 hl]
  · simp [s.load_over later (not_le.mp hl), ← List.append_assoc]

/-- The bytes unread and the bytes of the stream, over each operation. -/
theorem exec_received {i : Instr} {s t : State} (he : exec i s = .next t) :
    s.popped i ++ (t.inBuf ++ t.rx.flatten) = s.inBuf ++ s.rx.flatten ∨
    (i = .aciaReset ∧ t.inBuf = [] ∧ t.rx = s.rx) := by
  cases exec_cases he with
  | dataReadEmpty d hb => exact .inl (by simp [State.popped, hb])
  | dataRead d b rest hb => exact .inl (by simp [State.popped, hb])
  | command i hi =>
    left
    rw [s.popped_eq_nil (isBus_eq_false_of_isCommand hi), s.command_frame i]
    rfl
  | event i b t' r hi =>
    left
    rw [s.popped_eq_nil hi.isBus_eq_false, s.events_frame b t' r]
    rfl
  | poll => exact .inl s.pollAcia_received
  | reset => exact .inr ⟨rfl, rfl, rfl⟩
  | _ => exact .inl rfl

/-! ### The ACIA's flags (R28, R29) -/

theorem exec_interruptEnabled {i : Instr} {s t : State} (he : exec i s = .next t)
    (h : s.interruptEnabled = true) : t.interruptEnabled = true ∨ i = .aciaReset := by
  cases exec_cases he with
  | controlWrite v m => exact .inl (by simp [State.setControl, h])
  | controlFlush v m => exact .inl (by simp [State.setControl, h])
  | command i hi =>
    exact .inl ((congrArg State.interruptEnabled (s.command_frame i)).trans h)
  | event i b t' r hi =>
    exact .inl ((congrArg State.interruptEnabled (s.events_frame b t' r)).trans h)
  | poll => exact .inl ((congrArg State.interruptEnabled s.pollAcia_frame).trans h)
  | reset => exact .inr rfl
  | _ => exact .inl h

theorem State.pollAcia_interruptPending {s : State} (h : s.interruptPending = true) :
    s.pollAcia.interruptPending = true := by
  obtain hp | ⟨l, later, -, -, hp⟩ := s.pollAcia_cases <;> rw [hp]
  · exact h
  · unfold State.load
    split
    · exact h
    · simp [h]

theorem exec_interruptPending {i : Instr} {s t : State} (he : exec i s = .next t)
    (h : s.interruptPending = true) :
    t.interruptPending = true ∨ (∃ d, i = .aciaSr d) ∨ i = .aciaReset := by
  cases exec_cases he with
  | statusRead d => exact .inr (.inl ⟨d, rfl⟩)
  | command i hi =>
    exact .inl ((congrArg State.interruptPending (s.command_frame i)).trans h)
  | event i b t' r hi =>
    exact .inl ((congrArg State.interruptPending (s.events_frame b t' r)).trans h)
  | poll => exact .inl (State.pollAcia_interruptPending h)
  | reset => exact .inr (.inr rfl)
  | _ => exact .inl h

/-! ### The parameters and the cycle counter (R5, R31, R32) -/

theorem exec_keeps_parameters {i : Instr} {s t : State} (he : exec i s = .next t) :
    t.cfg = s.cfg ∧ t.rate = s.rate := by
  cases exec_cases he with
  | command i hi =>
    rw [s.command_frame i]
    exact ⟨rfl, rfl⟩
  | event i b t' r hi =>
    rw [s.events_frame b t' r]
    exact ⟨rfl, rfl⟩
  | poll =>
    rw [s.pollAcia_frame]
    exact ⟨rfl, rfl⟩
  | _ => exact ⟨rfl, rfl⟩

theorem commandBody_cycleCounter (i : Instr) (s : State) :
    (commandBody i s).cycleCounter = s.cycleCounter ∨
    ((commandBody i s).cycleCounter = 0 ∧ i = .ctrClr) := by
  cases i with
  | ctrClr => exact .inr ⟨rfl, rfl⟩
  | stepN n =>
    by_cases hn : n = 0
    · exact .inl (by rw [hn, commandBody_stepN_zero])
    · exact .inl (by rw [commandBody_stepN_pos hn]; rfl)
  | _ => exact .inl rfl

theorem State.command_cycleCounter (s : State) (i : Instr) :
    (s.command (commandBody i)).cycleCounter = s.cycleCounter ∨
    ((s.command (commandBody i)).cycleCounter = 0 ∧ i = .ctrClr) := by
  cases hl : s.inCommandLoop with
  | false => exact .inl (by rw [s.command_busy _ hl])
  | true =>
    rw [s.command_taken _ hl]
    exact commandBody_cycleCounter i s.beginIteration

theorem exec_cycleCounter {i : Instr} {s t : State} (he : exec i s = .next t) :
    t.cycleCounter = s.cycleCounter ∨ (t.cycleCounter = 0 ∧ i = .ctrClr) := by
  cases exec_cases he with
  | command i hi => exact s.command_cycleCounter i
  | event i b t' r hi => exact .inl (congrArg State.cycleCounter (s.events_frame b t' r) :)
  | poll => exact .inl (congrArg State.cycleCounter s.pollAcia_frame :)
  | _ => exact .inl rfl

theorem State.cycleCounter_le_turn (s : State) : s.cycleCounter ≤ s.turn.cycleCounter := by
  have ht := s.turn_cases
  generalize s.turn = t at ht ⊢
  cases ht with
  | counts k c hc hp => exact Nat.le_add_right _ _
  | _ => exact le_rfl

/-! ### The obligations -/

/-- Settles O46: no operation writes them, nor does any other move. -/
theorem parametersNeverWritten : Obligations.ParametersNeverWritten := by
  intro s t h
  obtain ⟨i, u, hf, he⟩ | ht := step_cases_frame h
  · have hu := fetch_run_frame hf
    obtain ⟨hcfg, hrate⟩ := exec_keeps_parameters he
    exact ⟨hcfg.trans (congrArg State.cfg hu :), hrate.trans (congrArg State.rate hu :)⟩
  · exact ⟨(congrArg State.cfg ht :), (congrArg State.rate ht :)⟩

/-- Settles O47: only `CTR_CLR` and `COUNT` write the counter, and `COUNT` adds to it. -/
theorem cycleCounterMonotone : Obligations.CycleCounterMonotone := by
  intro s t h
  obtain ⟨i, u, hf, he⟩ | hd | ⟨u, hf, rfl⟩ := step_cases h
  · obtain hkept | ⟨hzero, rfl⟩ := exec_cycleCounter he
    · exact .inl (hkept.trans (congrArg State.cycleCounter (fetch_run_frame hf))).ge
    · exact .inr ⟨hzero, u, hf⟩
  · exact .inl (congrArg State.cycleCounter (fetch_done_frame hd)).ge
  · obtain ⟨-, l, rfl⟩ := fetch_turn_frame hf
    exact .inl (State.cycleCounter_le_turn { s with arrivals := l } :)

/-- Settles O48: of the operations only a control write and `ACIA_RESET` write the enable, and the
write only sets it. -/
theorem interruptEnableSticky : Obligations.InterruptEnableSticky := by
  refine ⟨fun i s t => exec_interruptEnabled, fun s t h hen => ?_⟩
  obtain ⟨i, u, hf, he⟩ | ht := step_cases_frame h
  · have hu : u.interruptEnabled = true :=
      (congrArg State.interruptEnabled (fetch_run_frame hf)).trans hen
    obtain hkept | rfl := exec_interruptEnabled he hu
    · exact .inl hkept
    · exact .inr ⟨u, hf⟩
  · exact .inl ((congrArg State.interruptEnabled ht).trans hen)

/-- Settles O49: of the operations only a status read, `ACIA_RESET` and the poll write the pending
flag, and the poll only sets it. -/
theorem pendingClearedByStatusReadOrReset : Obligations.PendingClearedByStatusReadOrReset := by
  refine ⟨fun i s t => exec_interruptPending, fun s t h hpend => ?_⟩
  obtain ⟨i, u, hf, he⟩ | ht := step_cases_frame h
  · have hu : u.interruptPending = true :=
      (congrArg State.interruptPending (fetch_run_frame hf)).trans hpend
    obtain hkept | ⟨d, rfl⟩ | rfl := exec_interruptPending he hu
    · exact .inl hkept
    · exact .inr (.inl ⟨d, u, hf⟩)
    · exact .inr (.inr ⟨u, hf⟩)
  · exact .inl ((congrArg State.interruptPending ht).trans hpend)

/-- Settles O52: a flush moves the waiting bytes to the stream's end, in their order. -/
theorem transmitKeepsOrder : Obligations.TransmitKeepsOrder := by
  refine ⟨fun i s t => exec_sent, fun s t h hno => ⟨?_, ?_⟩⟩
  · obtain ⟨i, u, hf, -⟩ | hquiet := step_cases_addsNoTx h
    · exact absurd hf (hno i u)
    · exact hquiet.tx_eq
  · obtain ⟨i, u, hf, -⟩ | ht := step_cases_frame h
    · exact absurd hf (hno i u)
    · exact (congrArg State.outBuf ht :)

/-- Settles O53: a data read pops the head, a poll moves bytes from the stream to the empty `inBuf`,
and of the other moves only the host's and the line reader's touch the stream. -/
theorem receiveKeepsOrder : Obligations.ReceiveKeepsOrder := by
  refine ⟨fun i s t => exec_received, fun s t h hno => ⟨?_, ?_⟩⟩
  · obtain ⟨i, u, hf, -⟩ | ht := step_cases_frame h
    · exact absurd hf (hno i u)
    · exact (congrArg State.inBuf ht :)
  · obtain ⟨i, u, hf, -⟩ | hd | ⟨u, hf, rfl⟩ := step_cases h
    · exact absurd hf (hno i u)
    · obtain ⟨w, -, rfl⟩ | ⟨-, a, later, ha, rfl | ⟨l, rfl, rfl⟩ | ⟨rfl, hp, rfl⟩ |
        ⟨k, c, pc, rb, -, -, rfl⟩ | ⟨text, -, -, -, rfl⟩⟩ := fetch_done_cases hd
      · exact .inl rfl
      · exact .inl rfl
      · exact .inr (.inl ⟨l, later, ha, rfl⟩)
      · exact .inr (.inr ⟨later, ha, hp, rfl⟩)
      · exact .inl rfl
      · exact .inl rfl
    · obtain ⟨-, l, rfl⟩ := fetch_turn_frame hf
      exact .inl (congrArg State.rx (State.turn_frame { s with arrivals := l }) :)

/-- Settles O54: every operation and every other move adds to the end of the outputs or leaves
them. -/
theorem outputsOnlyGrow : Obligations.OutputsOnlyGrow := by
  intro s t h
  obtain ⟨i, u, hf, he⟩ | hquiet := step_cases_addsNoTx h
  · have hu : u.outputs = s.outputs := (congrArg State.outputs (fetch_run_frame hf) :)
    exact hu ▸ exec_outputs_grow he
  · exact hquiet.outputs_grow

/-- Settles O43: the fields are as listed, and in `IDLE` with nobody moving the controller's turn is
the automatic `RUN` if that is to come, and otherwise changes nothing. -/
theorem powerOnState : Obligations.PowerOnState := by
  intro p r a s
  refine ⟨rfl, rfl, rfl, rfl, rfl, rfl, rfl, rfl, rfl, rfl, rfl, rfl, rfl, rfl, rfl, rfl, rfl, rfl,
    rfl, rfl, ?_, ?_⟩
  · rintro rfl
    exact step_turn (fetch_nobody rfl rfl)
  · rintro rfl
    exact step_turn (fetch_nobody rfl rfl)

end Sys2Proof.Machine
end

section
/-! The watchpoint is a value nothing reads (R39, R182): each function of the model commutes with a
change of it, up to the value the change leaves. -/

namespace Sys2Proof.Machine

/-- The state with another watchpoint. -/
def State.watching (s : State) (w : Option Addr) : State := { s with watchpoint := w }

/-- The outcome with another watchpoint in its next state. -/
def watchingNext (w : Option Addr) (o : Host.Outcome State Fault Refusal) :
    Host.Outcome State Fault Refusal :=
  match o with
  | .next t => .next (t.watching w)
  | .fault f => .fault f
  | .refused r => .refused r

/-- The move made at the state with another watchpoint. -/
def Move.watching (m : Move) (w : Option Addr) : Move :=
  match m with
  | .run i s => .run i (s.watching w)
  | .done s => .done (s.watching w)
  | .turn s => .turn (s.watching w)
  | .stop f => .stop f

section Watching

variable (s : State) (w : Option Addr)

/-! ### Operations -/

theorem State.watching_command (body : State → State)
    (hbody : ∀ t : State, body (t.watching w) = (body t).watching w) :
    (s.watching w).command body = (s.command body).watching w := by
  cases hl : s.inCommandLoop with
  | false => rw [s.command_busy _ hl, (s.watching w).command_busy _ hl]
  | true =>
    have hb : body (s.watching w).beginIteration = (body s.beginIteration).watching w :=
      hbody s.beginIteration
    rw [s.command_taken _ hl, (s.watching w).command_taken _ hl, hb]
    rfl

theorem commandBody_watching {i : Instr} (hi : ∀ hi addr, i ≠ .wpSet hi addr) :
    commandBody i (s.watching w) = (commandBody i s).watching w := by
  cases i with
  | wpSet hi' addr => exact absurd rfl (hi hi' addr)
  | stepN n =>
    by_cases hn : n = 0
    · rw [hn, commandBody_stepN_zero, commandBody_stepN_zero]
    · rw [commandBody_stepN_pos hn, commandBody_stepN_pos hn]
      rfl
  | _ => rfl

/-- The command that sets the watchpoint forgets the one before, and where it is not accepted it
leaves it. -/
theorem exec_wpSet_watching (hi : BitVec 16) (addr : Addr) :
    ∃ w', exec (.wpSet hi addr) (s.watching w) = watchingNext w' (exec (.wpSet hi addr) s) := by
  cases hl : s.inCommandLoop with
  | false =>
    refine ⟨w, ?_⟩
    rw [exec_command rfl, exec_command rfl, s.command_busy _ hl, (s.watching w).command_busy _ hl]
    rfl
  | true =>
    refine ⟨some addr, ?_⟩
    rw [exec_command rfl, exec_command rfl, s.command_taken _ hl,
      (s.watching w).command_taken _ hl]
    rfl

theorem State.watching_events (b t r : Bool) :
    (s.watching w).events b t r = (s.events b t r).watching w := by
  unfold State.events
  rw [show (s.watching w).ctl = s.ctl from rfl]
  cases s.ctl with
  | idle =>
    dsimp only
    rw [apply_ite (State.watching · w)]
    rfl
  | exec k p =>
    cases p with
    | suspended =>
      dsimp only
      rw [apply_ite (State.watching · w)]
      rfl
    | _ => rfl

theorem State.watching_load (l : List Byte) (later : List (List Byte)) :
    (s.watching w).load l later = (s.load l later).watching w := by
  unfold State.load
  rw [apply_ite (State.watching · w)]
  rfl

theorem State.watching_pollAcia : (s.watching w).pollAcia = s.pollAcia.watching w := by
  unfold State.pollAcia
  rw [show (s.watching w).inBuf = s.inBuf from rfl, show (s.watching w).rx = s.rx from rfl]
  cases s.inBuf with
  | cons b rest => rfl
  | nil =>
    cases s.rx with
    | nil => rfl
    | cons l later => exact s.watching_load w l later

theorem exec_aciaCw_watching (v : Byte) :
    exec (.aciaCw v) (s.watching w) = watchingNext w (exec (.aciaCw v) s) := by
  simp only [exec, execAciaCw]
  rw [show (s.watching w).cfg = s.cfg from rfl]
  cases modeOf s.cfg.mode3Policy (ctlMode v) with
  | none => rfl
  | some m => cases ctlFlush v <;> rfl

theorem exec_aciaDr_watching (d : Byte) :
    exec (.aciaDr d) (s.watching w) = watchingNext w (exec (.aciaDr d) s) := by
  simp only [exec, execAciaDr]
  rw [show (s.watching w).inBuf = s.inBuf from rfl]
  cases s.inBuf <;> rfl

theorem exec_aciaDw_watching (v : Byte) :
    exec (.aciaDw v) (s.watching w) = watchingNext w (exec (.aciaDw v) s) := by
  simp only [exec, execAciaDw, watchingNext]
  rw [apply_ite (State.watching · w)]
  rfl

/-- No operation reads the watchpoint, and only `WP_SET` writes it. -/
theorem exec_watching (i : Instr) :
    ∃ w', exec i (s.watching w) = watchingNext w' (exec i s) := by
  have command (i : Instr) (hc : isCommand i = true) (hi : ∀ hi addr, i ≠ .wpSet hi addr) :
      ∃ w', exec i (s.watching w) = watchingNext w' (exec i s) := by
    refine ⟨w, ?_⟩
    rw [exec_command hc, exec_command hc,
      s.watching_command w _ fun t => commandBody_watching t w hi]
    rfl
  cases i with
  | aciaSr d => exact ⟨w, rfl⟩
  | aciaCw v => exact ⟨w, exec_aciaCw_watching s w v⟩
  | aciaDr d => exact ⟨w, exec_aciaDr_watching s w d⟩
  | aciaDw v => exact ⟨w, exec_aciaDw_watching s w v⟩
  | wpSet hi addr => exact exec_wpSet_watching s w hi addr
  | brk t r => exact ⟨w, congrArg _ (s.watching_events w true t r)⟩
  | tick b r => exact ⟨w, congrArg _ (s.watching_events w b true r)⟩
  | rebootReq b t => exact ⟨w, congrArg _ (s.watching_events w b t true)⟩
  | aciaPoll => exact ⟨w, congrArg _ (s.watching_pollAcia w)⟩
  | aciaReset => exact ⟨w, rfl⟩
  | _ => exact command _ rfl nofun

/-! ### The controller's turn -/

theorem State.watching_countPhase (k : Kind) (c : Long) :
    (s.watching w).countPhase k c = (s.countPhase k c).watching w := by
  unfold State.countPhase
  rw [apply_ite (State.watching · w)]
  rfl

theorem State.watching_throttlePhase (k : Kind) (c : Long) :
    (s.watching w).throttlePhase k c = (s.throttlePhase k c).watching w := by
  unfold State.throttlePhase
  rw [apply_ite (State.watching · w)]
  rfl

theorem State.watching_checkPhase (k : Kind) (err : Option Long) :
    (s.watching w).checkPhase k err = (s.checkPhase k err).watching w := by
  cases err with
  | some code => rfl
  | none =>
    cases k <;>
    · simp only [State.checkPhase, apply_ite (State.watching · w)]
      rfl

theorem State.watching_turn : (s.watching w).turn = s.turn.watching w := by
  unfold State.turn
  rw [show (s.watching w).ctl = s.ctl from rfl]
  cases s.ctl with
  | idle =>
    simp only [apply_ite (State.watching · w)]
    rfl
  | exec k p =>
    cases p with
    | batch inside => cases inside <;> rfl
    | count c => exact s.watching_countPhase w k c
    | throttle c => exact s.watching_throttlePhase w k c
    | check err => exact s.watching_checkPhase w k err
    | _ => rfl

/-! ### The next move -/

theorem State.watching_presentAccess (rnw : Bool) (addr : Addr) (data : Byte) :
    (s.watching w).presentAccess rnw addr data = (s.presentAccess rnw addr data).watching w := by
  unfold State.presentAccess
  rw [show (s.watching w).cfg = s.cfg from rfl]
  cases busWordAt s.cfg.aciaBase rnw addr data <;> rfl

theorem State.watching_present (t : State) (a : Arrival) :
    (s.watching w).present (t.watching w) a = (s.present t a).watching w := by
  have hprompt : (s.watching w).atPrompt = s.atPrompt := rfl
  have hbatch : (s.watching w).insideBatch = s.insideBatch := rfl
  cases a with
  | evt e =>
    simp only [State.present]
    cases decodeEvt e <;> rfl
  | access m rnw addr data =>
    cases m with
    | engine =>
      simp only [State.present, hbatch]
      cases s.insideBatch with
      | none => rfl
      | some k => exact t.watching_presentAccess w rnw addr data
    | console =>
      simp only [State.present, hprompt]
      rw [show (s.watching w).cfg = s.cfg from rfl]
      cases s.atPrompt with
      | false => rfl
      | true =>
        cases s.cfg.debugAccessRouted with
        | false => rfl
        | true => exact t.watching_presentAccess w rnw addr data
  | cmd c =>
    simp only [State.present, hprompt]
    cases s.atPrompt <;> rfl
  | line text =>
    simp only [State.present, hprompt]
    cases s.atPrompt with
    | false => rfl
    | true =>
      cases lineWord text with
      | some c => rfl
      | none => exact congrArg Move.done (t.watching_command w _ fun _ => rfl)
  | batchReturn c pc reboot =>
    simp only [State.present, hbatch]
    cases s.insideBatch <;> rfl
  | rx l => rfl
  | consoleRead =>
    simp only [State.present, hprompt]
    cases s.atPrompt <;> rfl
  | quiet => rfl

theorem fetch_watching : fetch (s.watching w) = (fetch s).watching w := by
  cases hk : s.hook with
  | some h =>
    rw [fetch_hook hk, fetch_hook (s := s.watching w) hk]
    cases decodeHook h with
    | ok i => rfl
    | error e => cases e <;> rfl
  | none =>
    cases ha : s.arrivals with
    | nil =>
      rw [fetch_nobody hk ha, fetch_nobody (s := s.watching w) hk ha]
      rfl
    | cons a later =>
      rw [fetch_arrival hk ha, fetch_arrival (s := s.watching w) hk ha]
      exact s.watching_present w { s with arrivals := later } a

theorem step_watching : ∃ w', step (s.watching w) = watchingNext w' (step s) := by
  unfold step
  rw [fetch_watching]
  cases fetch s with
  | run i u => exact exec_watching u w i
  | done t => exact ⟨w, rfl⟩
  | turn u => exact ⟨w, congrArg _ (u.watching_turn w)⟩
  | stop f => exact ⟨w, rfl⟩

end Watching

/-! ### The obligation -/

/-- Settles O55: the step with another watchpoint is the step, with another watchpoint in its next
state. -/
theorem watchpointIsNeverRead : Obligations.WatchpointIsNeverRead := by
  intro s w
  obtain ⟨w', hstep⟩ := step_watching s w
  refine ⟨fun t ht => ⟨w', ?_⟩, fun f hf => ?_, fun r hr => ?_⟩
  · rw [ht] at hstep
    exact hstep
  · rw [hf] at hstep
    exact hstep
  · rw [hr] at hstep
    exact hstep

end Sys2Proof.Machine
end

section
/-! The bus interface (R61, R62, R81): the two addresses the block answers, and what a bus operation
reads and writes of the state. -/

namespace Sys2Proof.Machine

/-! ### The two addresses (R62, R81) -/

theorem aciaAddr_self (addr : Addr) : aciaAddr addr (addr.getLsbD 0) = addr := by
  ext i hi
  simp [aciaAddr]
  grind

theorem aciaAddr_false {base : Addr} (hbase : base.getLsbD 0 = false) :
    aciaAddr base false = base := by
  simpa only [hbase] using aciaAddr_self base

/-- On an even base adding 1 carries nowhere. -/
theorem aciaAddr_true {base : Addr} (hbase : base.getLsbD 0 = false) :
    aciaAddr base true = base + 1 := by
  have hand : base &&& 1#16 = 0#16 := by
    rw [BitVec.and_one_eq_setWidth_ofBool_getLsbD, hbase]
    rfl
  rw [show base + 1 = base ||| 1#16 from BitVec.add_eq_or_of_and_eq_zero base 1#16 hand]
  ext i hi
  simp [aciaAddr]
  grind

/-- An access that reaches the block is at one of its registers. -/
theorem addr_of_busWordAt_ne_none {base addr : Addr} {rnw : Bool} {d : Byte}
    (h : busWordAt base rnw addr d ≠ none) : addr = aciaAddr base (addr.getLsbD 0) := by
  have hhigh : addr.extractLsb' 1 15 = base.extractLsb' 1 15 := by
    by_contra hne
    exact h (if_neg hne)
  rw [aciaAddr, ← hhigh, ← aciaAddr, aciaAddr_self]

/-! ### What a bus operation reads (R61, R69) -/

/-- The ACIA of `s`, with the streams, the parameters and the free values a bus operation may use,
beside the timer and the controller of `r`. -/
def State.withAcia (r s : State) : State :=
  { r with
    cfg := s.cfg
    inBuf := s.inBuf
    inCur := s.inCur
    outBuf := s.outBuf
    bufferMode := s.bufferMode
    interruptEnabled := s.interruptEnabled
    interruptPending := s.interruptPending
    echoEnabled := s.echoEnabled
    rx := s.rx
    outputs := s.outputs
    draws := s.draws }

theorem State.sameAcia_withAcia (r s : State) : s.sameAcia (r.withAcia s) :=
  ⟨rfl, rfl, rfl, rfl, rfl, rfl, rfl, rfl⟩

theorem State.withAcia_eq_self {r s : State} (hacia : s.sameAcia r) (hcfg : r.cfg = s.cfg)
    (hdraws : r.draws = s.draws) (hout : r.outputs = s.outputs) : r.withAcia s = r := by
  obtain ⟨hin, hcur, hbuf, hmode, hen, hpend, hecho, hrx⟩ := hacia
  rw [State.withAcia, ← hcfg, ← hin, ← hcur, ← hbuf, ← hmode, ← hen, ← hpend, ← hecho, ← hrx,
    ← hout, ← hdraws]

/-- A bus operation works on the ACIA it stands at, whatever the timer and the controller beside it
hold. -/
theorem exec_bus_withAcia {i : Instr} {s t : State} (hi : isBus i = true)
    (h : exec i s = .next t) (r : State) : exec i (r.withAcia s) = .next (r.withAcia t) := by
  cases i with
  | aciaSr d =>
    cases h
    rfl
  | aciaCw v =>
    simp only [exec, execAciaCw, show (r.withAcia s).cfg = s.cfg from rfl] at h ⊢
    cases hm : modeOf s.cfg.mode3Policy (ctlMode v) with
    | none =>
      rw [hm] at h
      cases h
    | some m =>
      rw [hm] at h
      cases h
      cases ctlFlush v <;> rfl
  | aciaDr d =>
    simp only [exec, execAciaDr, show (r.withAcia s).inBuf = s.inBuf from rfl] at h ⊢
    cases hb : s.inBuf <;>
    · rw [hb] at h
      cases h
      rfl
  | aciaDw v =>
    cases h
    simp only [exec, execAciaDw, apply_ite (State.withAcia r)]
    rfl
  | _ => cases hi

/-! ### The obligations -/

/-- Settles O11: the answered addresses are those of the two registers, which for an even base are
the base and the next one. -/
theorem twoAddressesOnly : Obligations.TwoAddressesOnly := by
  intro base addr rnw d hbase
  refine ⟨?_, ?_, fun h0 h1 => ?_⟩
  · rintro rfl
    simpa only [aciaAddr_false hbase] using busWordAt_aciaAddr addr rnw false d
  · rintro rfl
    simpa only [aciaAddr_true hbase] using busWordAt_aciaAddr base rnw true d
  · by_contra hsome
    have haddr := addr_of_busWordAt_ne_none hsome
    cases ha0 : addr.getLsbD 0 with
    | false => exact h0 (by rwa [ha0, aciaAddr_false hbase] at haddr)
    | true => exact h1 (by rwa [ha0, aciaAddr_true hbase] at haddr)

/-- Settles O56: the operation at the second state is the one at the first, beside the second's
timer and controller. -/
theorem busIgnoresTimerAndController : Obligations.BusIgnoresTimerAndController := by
  intro i s s' t hi hacia hcfg hdraws hout h
  have h' := exec_bus_withAcia hi h s'
  rw [State.withAcia_eq_self hacia hcfg hdraws hout] at h'
  exact ⟨s'.withAcia t, h', s'.sameAcia_withAcia t, rfl⟩

/-- Settles O57, the frame of the four bus operations. -/
theorem busLeavesTimerAndController : Obligations.BusLeavesTimerAndController :=
  fun _ _ _ hi h => exec_bus_frame hi h

end Sys2Proof.Machine
end

section
/-! Receive bytes and the pending flag come by the poll only (R125, R126), and the poll's strobe is
served in the `POLL` phase only. -/

namespace Sys2Proof.Machine

/-- Receive bytes are loaded, or the pending flag is raised. -/
def State.ReceivesTo (s t : State) : Prop :=
  s.inBuf = [] ∧ t.inBuf ≠ [] ∨ s.interruptPending = false ∧ t.interruptPending = true

theorem State.not_receivesTo {s t : State} (hb : t.inBuf = s.inBuf)
    (hp : t.interruptPending = s.interruptPending) : ¬s.ReceivesTo t := by
  rintro (⟨he, hne⟩ | ⟨hf, ht⟩)
  · exact hne (hb.trans he)
  · exact absurd (hf.symm.trans (hp.symm.trans ht)) nofun

/-- Of the operations only the poll fills an empty `inBuf` or raises the pending flag. -/
theorem eq_aciaPoll_of_receivesTo {i : Instr} {s t : State} (he : exec i s = .next t)
    (h : s.ReceivesTo t) : i = .aciaPoll := by
  cases exec_cases he with
  | statusRead d =>
    obtain ⟨hb, hne⟩ | ⟨-, ht⟩ := h
    · exact absurd hb hne
    · cases ht
  | dataRead d b rest hb =>
    obtain ⟨hn, -⟩ | ⟨hf, ht⟩ := h
    · cases hb.symm.trans hn
    · exact absurd (hf.symm.trans ht) nofun
  | command i hi =>
    obtain ⟨hb, -, -, -, -, hp, -, -⟩ := s.command_sameAcia i
    exact absurd h (State.not_receivesTo hb hp)
  | event i b t' r hi =>
    obtain ⟨hb, -, -, -, -, hp, -, -⟩ := s.events_sameAcia b t' r
    exact absurd h (State.not_receivesTo hb hp)
  | poll => rfl
  | reset =>
    obtain ⟨-, hne⟩ | ⟨-, ht⟩ := h
    · exact absurd rfl hne
    · cases ht
  | _ => exact absurd h (State.not_receivesTo rfl rfl)

/-- The poll stands on the strobe lines only (R80, R95). -/
theorem fetch_aciaPoll {s u : State} (hf : fetch s = .run .aciaPoll u) :
    s.hook = some 0b01#2 ∧ u = s.hookServed 0b01#2 := by
  obtain ⟨w, hook, hd, rfl⟩ | ⟨-, a, later, -, -, ⟨w, -, hd⟩ | ⟨w, hd, -⟩ | ⟨-, w, hd, -⟩⟩ :=
    fetch_run_cases hf
  · obtain ⟨rfl, -⟩ | ⟨-, hi⟩ := decodeHook_eq_ok hd
    · exact ⟨hook, rfl⟩
    · cases hi
  · obtain ⟨i, hd', hi⟩ := decodeEvt_isEventRow (ne_zero_of_decodeEvt hd)
    cases hd'.symm.trans hd
    obtain ⟨hrow, -⟩ | ⟨hrow, -⟩ | ⟨hrow, -⟩ := hi <;> cases hrow
  · cases hd ▸ isBus_decodeBus w
  · cases hd ▸ isCommand_decodeCmd w

theorem Ctl.inPoll_eq_true {c : Ctl} (h : c.inPoll = true) : ∃ k err, c = .exec k (.poll err) := by
  unfold Ctl.inPoll at h
  split at h
  next k err => exact ⟨k, err, rfl⟩
  next => cases h
  next => cases h

theorem State.hookServed_poll {s : State} {k : Kind} {err : Option Long}
    (hc : s.ctl = .exec k (.poll err)) :
    s.hookServed 0b01#2 = { s with hook := none, ctl := .exec k (.check err) } := by
  simp only [State.hookServed, hc]
  rfl

/-- Settles O51: the receiving step runs the poll, whose strobe the invariant allows in `POLL`
only. -/
theorem receiveOnlyBetweenBatches : Obligations.ReceiveOnlyBetweenBatches := by
  intro s t hinv hs (h : s.ReceivesTo t)
  obtain ⟨i, u, hf, he⟩ | ht := step_cases_frame hs
  · have hu : u.ReceivesTo t := by
      rw [fetch_run_frame hf]
      exact h
    obtain rfl := eq_aciaPoll_of_receivesTo he hu
    obtain ⟨hook, rfl⟩ := fetch_aciaPoll hf
    obtain ⟨-, hpoll⟩ | ⟨hw, -⟩ := hinv.hookPhase _ hook
    · obtain ⟨k, err, hc⟩ := Ctl.inPoll_eq_true hpoll
      cases he
      refine ⟨k, err, hc, ?_⟩
      rw [State.pollAcia_frame, State.hookServed_poll hc]
    · cases hw
  · exact absurd h (State.not_receivesTo (congrArg State.inBuf ht :)
      (congrArg State.interruptPending ht :))

end Sys2Proof.Machine
end

section
/-! What the next arrival is presented as, said once for each interface (R62, R63, R72, R162), and
the step that follows. -/

namespace Sys2Proof.Machine

/-! ### Arrivals that are an operation -/

theorem State.present_event {s t : State} {w : EvtWord} {i : Instr} (hd : decodeEvt w = .ok i) :
    s.present t (.evt w) = .run i t := by
  simp only [State.present, hd]

theorem State.present_command {s t : State} (w : CmdWord) (hp : s.atPrompt = true) :
    s.present t (.cmd w) = .run (decodeCmd w) t := if_pos hp

theorem State.present_line {s t : State} {text : List Byte} {w : CmdWord} (hp : s.atPrompt = true)
    (hw : lineWord text = some w) : s.present t (.line text) = .run (decodeCmd w) t := by
  simp only [State.present, hp, if_true, hw]

theorem State.presentAccess_answered {s : State} {rnw : Bool} {addr : Addr} {d : Byte} {w : BusWord}
    (hw : busWordAt s.cfg.aciaBase rnw addr d = some w) :
    s.presentAccess rnw addr d = .run (decodeBus w) s := by
  simp only [State.presentAccess, hw]

/-! ### Arrivals that are none -/

theorem State.present_noEvent (s t : State) : s.present t (.evt 0b000#3) = .turn t := rfl

theorem State.present_lineRejected {s t : State} {text : List Byte} (hp : s.atPrompt = true)
    (hw : lineWord text = none) : s.present t (.line text) = .done t.rejectLine := by
  simp only [State.present, hp, if_true, hw]

theorem State.presentAccess_elsewhere {s : State} {rnw : Bool} {addr : Addr} {d : Byte}
    (hw : busWordAt s.cfg.aciaBase rnw addr d = none) : s.presentAccess rnw addr d = .done s := by
  simp only [State.presentAccess, hw]

/-! ### Accesses by their master -/

theorem State.present_engineAccess {s t : State} {k : Kind} (hc : s.ctl = .exec k (.batch true))
    (rnw : Bool) (addr : Addr) (d : Byte) :
    s.present t (.access .engine rnw addr d) = t.presentAccess rnw addr d := by
  simp only [State.present, insideBatch_eq_some.mpr hc]

theorem State.present_consoleAccess {s t : State} (hp : s.atPrompt = true) (rnw : Bool)
    (addr : Addr) (d : Byte) : s.present t (.access .console rnw addr d) =
      if s.cfg.debugAccessRouted then t.presentAccess rnw addr d else .done t := if_pos hp

/-! ### The step -/

theorem step_strobe {s : State} {w : HookWord} {i : Instr} (hook : s.hook = some w)
    (hd : decodeHook w = .ok i) : step s = exec i (s.hookServed w) :=
  step_run (by rw [fetch_hook hook, hd])

theorem step_arrival_run {s u : State} {a : Arrival} {later : List Arrival} {i : Instr}
    (hook : s.hook = none) (ha : s.arrivals = a :: later)
    (hp : s.present { s with arrivals := later } a = .run i u) : step s = exec i u :=
  step_run ((fetch_arrival hook ha).trans hp)

theorem step_arrival_done {s u : State} {a : Arrival} {later : List Arrival}
    (hook : s.hook = none) (ha : s.arrivals = a :: later)
    (hp : s.present { s with arrivals := later } a = .done u) : step s = .next u :=
  step_done ((fetch_arrival hook ha).trans hp)

/-! ### The obligations -/

/-- Settles O8: each clause is what its interface presents. -/
theorem stepRunsDecodedWord : Obligations.StepRunsDecodedWord := by
  refine ⟨fun s w i hook hd => step_strobe hook hd, ?command, ?line, ?event, ?engine, ?console⟩
  case command =>
    intro s later w hook ha hc hr hauto
    exact step_arrival_run hook ha (State.present_command w (atPrompt_eq_true.mpr ⟨hc, hr, hauto⟩))
  case line =>
    intro s later text w hook ha hc hr hauto hw
    exact step_arrival_run hook ha (State.present_line (atPrompt_eq_true.mpr ⟨hc, hr, hauto⟩) hw)
  case event =>
    intro s later w i hook ha hd
    exact step_arrival_run hook ha (State.present_event hd)
  case engine =>
    intro s later k rnw addr d w hook ha hc hw
    exact step_arrival_run hook ha
      ((State.present_engineAccess hc rnw addr d).trans (State.presentAccess_answered hw))
  case console =>
    intro s later rnw addr d w hook ha hc hr hauto hrouted hw
    refine step_arrival_run hook ha ?_
    rw [State.present_consoleAccess (atPrompt_eq_true.mpr ⟨hc, hr, hauto⟩), if_pos hrouted]
    exact State.presentAccess_answered hw

/-- Settles O10: each clause is what its interface presents where no operation stands on it. -/
theorem movesWithoutOperation : Obligations.MovesWithoutOperation := by
  refine ⟨?both, ?neither, ?event, ?line, ?engine, ?console⟩
  case both =>
    intro s hook
    have hf : fetch s = .stop .bothHookStrobes := fetch_hook hook
    rw [step, hf]
  case neither =>
    intro s hook
    exact step_done (fetch_hook hook)
  case event =>
    intro s later hook ha
    exact step_turn ((fetch_arrival hook ha).trans (s.present_noEvent _))
  case line =>
    intro s later text hook ha hc hr hauto hw
    have hloop : s.inCommandLoop = true := s.inCommandLoop_eq_true.mpr ⟨hc, hr⟩
    rw [step_arrival_done hook ha
      (State.present_lineRejected (atPrompt_eq_true.mpr ⟨hc, hr, hauto⟩) hw)]
    exact congrArg _ (State.rejectLine_taken { s with arrivals := later } hloop)
  case engine =>
    intro s later k rnw addr d hook ha hc hw
    exact step_arrival_done hook ha
      ((State.present_engineAccess hc rnw addr d).trans (State.presentAccess_elsewhere hw))
  case console =>
    intro s later rnw addr d hook ha hc hr hauto hnone
    refine step_arrival_done hook ha ?_
    rw [State.present_consoleAccess (atPrompt_eq_true.mpr ⟨hc, hr, hauto⟩)]
    split
    next hrouted => exact State.presentAccess_elsewhere (hnone.resolve_left (by simp [hrouted]))
    next => rfl

end Sys2Proof.Machine
end

section
/-! The decoder and the encoder are inverse (R81 to R95): a word of each format is its fields, and
its row is told by them. -/

namespace Sys2Proof

open Machine

/-! ### `BUS` words (R82) -/

/-- The table of R82: the operation that `RnW` and `A0` select. -/
def busRow (rnw a0 : Bool) (d : Byte) : Instr :=
  match rnw, a0 with
  | true,  false => .aciaSr d
  | false, false => .aciaCw d
  | true,  true  => .aciaDr d
  | false, true  => .aciaDw d

theorem decodeBus_eq_busRow (w : BusWord) :
    decodeBus w = busRow (w.getLsbD 9) (w.getLsbD 8) (w.extractLsb' 0 8) := by
  unfold decodeBus
  cases w.getLsbD 9 <;> cases w.getLsbD 8 <;> rfl

theorem decode_busWord (r a : Bool) (d : Byte) :
    decode (.bus (busWord r a d)) = .ok (busRow r a d) := by
  rw [decode, decodeBus_eq_busRow, busWord_rnw, busWord_a0, busWord_data]

theorem encode_busRow (r a : Bool) (d : Byte) : encode (busRow r a d) = .bus (busWord r a d) := by
  cases r <;> cases a <;> rfl

theorem encode_decodeBus (w : BusWord) : encode (decodeBus w) = .bus w := by
  rw [decodeBus_eq_busRow, encode_busRow, busWord_fields]

/-- The bits R82's mask leaves of a word. -/
theorem busWord_mask (w : BusWord) :
    w &&& 0x300#10 = busWord (w.getLsbD 9) (w.getLsbD 8) 0 := by
  conv_lhs => rw [← busWord_fields w, Laws.busWord_select]

theorem decode_bus_of_mask {w : BusWord} {r a : Bool} (h : w &&& 0x300#10 = busWord r a 0) :
    decode (.bus w) = .ok (busRow r a (w.extractLsb' 0 8)) := by
  rw [busWord_mask] at h
  have hr := congrArg (BitVec.getLsbD · 9) h
  have ha := congrArg (BitVec.getLsbD · 8) h
  simp only [busWord_rnw, busWord_a0] at hr ha
  rw [decode, decodeBus_eq_busRow, hr, ha]

/-! ### `CMD` words (R88, R91) -/

/-- A row of R91 that looks at the verb and `HAS_ARG`. -/
theorem selects_verb_hasArg_iff (w : CmdWord) (v : Byte) (h : Bool) :
    w &&& 0x1FF00000000#41 = cmdWord v h 0 ↔ cmdVerb w = v ∧ cmdHasArg w = h := by
  rw [← cmdWord_fields w, Laws.cmdWord_select, cmdWord_inj, cmdWord_fields]
  simp

/-- A row of R91 that looks at the verb alone. -/
theorem selects_verb_iff (w : CmdWord) (v : Byte) :
    w &&& 0x1FE00000000#41 = cmdWord v false 0 ↔ cmdVerb w = v := by
  rw [← cmdWord_fields w, Laws.cmdWord_selectVerb, cmdWord_inj, cmdWord_fields]
  simp

/-- A row of R91 that looks at the whole word. -/
theorem selects_word_iff (w : CmdWord) (v : Byte) (h : Bool) (a : Long) :
    w &&& 0x1FFFFFFFFFF#41 = cmdWord v h a ↔ cmdVerb w = v ∧ cmdHasArg w = h ∧ cmdArg w = a := by
  have hmask : w &&& 0x1FFFFFFFFFF#41 = w := BitVec.and_allOnes
  rw [hmask, ← cmdWord_inj, cmdWord_fields]

/-- The rows of R91, their patterns written with the verbs of R89. -/
theorem cmdRows_eq : cmdRows =
    [ ⟨"RUN",       cmdWord 0x67#8 false 0, 0x1FF00000000#41⟩,
      ⟨"GO_AT",     cmdWord 0x67#8 true 0,  0x1FF00000000#41⟩,
      ⟨"RUN_UNTIL", cmdWord 0x66#8 true 0,  0x1FF00000000#41⟩,
      ⟨"STEP1",     cmdWord 0x6E#8 false 0, 0x1FF00000000#41⟩,
      ⟨"STEP",      cmdWord 0x6E#8 true 0,  0x1FF00000000#41⟩,
      ⟨"SET_PC",    cmdWord 0x70#8 true 0,  0x1FF00000000#41⟩,
      ⟨"WP_SET",    cmdWord 0x77#8 true 0,  0x1FF00000000#41⟩,
      ⟨"REBOOT",    cmdWord 0x78#8 false 0, 0x1FE00000000#41⟩,
      ⟨"CTR_READ",  cmdWord 0x79#8 false 0, 0x1FF00000000#41⟩,
      ⟨"CTR_CLR",   cmdWord 0x79#8 true 0,  0x1FFFFFFFFFF#41⟩ ] := by
  decide

/-- The mnemonic of the first row a word selects, `CMD_UNDEF` when there is none (R91). -/
def rowMnemonic (w : CmdWord) : String :=
  match cmdRows.find? fun r => r.selects w with
  | some r => r.mnemonic
  | none => "CMD_UNDEF"

/-- The decoder's chain of verbs goes down the table's rows. -/
theorem mnemonic_decodeCmd (w : CmdWord) : (decodeCmd w).mnemonic = rowMnemonic w := by
  simp only [rowMnemonic, cmdRows_eq, List.find?_cons, CmdRow.selects, beq_eq_decide,
    selects_verb_hasArg_iff, selects_verb_iff, selects_word_iff]
  fun_cases decodeCmd w <;> simp +zetaDelta only [*] <;> rfl

theorem rowMnemonic_of_no_row {w : CmdWord} (h : (cmdRows.all fun r => !r.selects w) = true) :
    rowMnemonic w = "CMD_UNDEF" := by
  have hnone : (cmdRows.find? fun r => r.selects w) = none :=
    List.find?_eq_none.mpr fun r hr => by simpa using List.all_eq_true.mp h r hr
  rw [rowMnemonic, hnone]

theorem eq_cmdUndef_of_mnemonic {i : Instr} (h : i.mnemonic = "CMD_UNDEF") :
    ∃ w, i = .cmdUndef w := by
  cases i with
  | cmdUndef w => exact ⟨w, rfl⟩
  | _ => simp [Instr.mnemonic] at h

/-- Each row's operation keeps the fields its row leaves open, and the word is its fields. -/
theorem encode_decodeCmd (w : CmdWord) : encode (decodeCmd w) = .cmd w := by
  have hw := cmdWord_fields w
  fun_cases decodeCmd w <;> simp_all +zetaDelta [encode, arg_halves]

/-- A word that selects no row is `CMD_UNDEF`: its mnemonic says so, and no bit of it is lost. -/
theorem decodeCmd_of_no_row {w : CmdWord} (h : (cmdRows.all fun r => !r.selects w) = true) :
    decodeCmd w = .cmdUndef w := by
  obtain ⟨w', hw'⟩ :=
    eq_cmdUndef_of_mnemonic ((mnemonic_decodeCmd w).trans (rowMnemonic_of_no_row h))
  have hw : PortWord.cmd w' = .cmd w := (congrArg encode hw').symm.trans (encode_decodeCmd w)
  cases hw
  exact hw'

theorem encode_of_decodeCmd {w : CmdWord} {i : Instr} (h : decodeCmd w = i) :
    encode i = .cmd w := h ▸ encode_decodeCmd w

theorem argLow_cmdArg (w : CmdWord) : argLow (cmdArg w) = w.extractLsb' 0 16 := by
  ext i h
  simp [argLow, cmdArg]

/-- An address operand is `ARG[15:0]` of its word (R88). -/
theorem addr_of_cmdWord {w : CmdWord} {v : Byte} {h : Bool} {hi : BitVec 16} {a : Addr}
    (hw : PortWord.cmd (cmdWord v h (hi ++ a)) = .cmd w) : a = w.extractLsb' 0 16 := by
  cases hw
  rw [← argLow_cmdArg, cmdArg_cmdWord, argLow_append]

/-- The decoder finds the verb, `HAS_ARG` and `ARG` the encoder wrote; a `CMD_UNDEF` holds its whole
word, which by its well-formedness selects no row. -/
theorem decode_encode_command {i : Instr} (hi : isCommand i = true) (hw : i.wellFormed = true) :
    decode (encode i) = .ok i := by
  cases i with
  | cmdUndef w => exact congrArg _ (decodeCmd_of_no_row hw)
  | _ =>
    cases hi <;> simp [encode, decode, decodeCmd, cmdVerb_cmdWord, cmdHasArg_cmdWord,
      cmdArg_cmdWord, argHigh_append, argLow_append]

/-! ### `EVT` and `HOOK` words (R94, R95) -/

/-- The lines above an event word's lowest are operands of its row. -/
theorem decode_evtWord_brk (r t : Bool) : decode (.evt (evtWord r t true)) = .ok (.brk t r) := by
  cases r <;> cases t <;> rfl

theorem decode_evtWord_tick (r : Bool) :
    decode (.evt (evtWord r true false)) = .ok (.tick false r) := by
  cases r <;> rfl

theorem decode_evtWord_rebootReq :
    decode (.evt (evtWord true false false)) = .ok (.rebootReq false false) := rfl

theorem evtWord_lines (w : EvtWord) :
    evtWord (w.getLsbD 2) (w.getLsbD 1) (w.getLsbD 0) = w := by
  revert w
  decide

theorem encode_of_isEventRow {i : Instr} {b t r : Bool} (hi : IsEventRow i b t r) :
    encode i = .evt (evtWord r t b) := by
  obtain ⟨rfl, rfl⟩ | ⟨rfl, rfl⟩ | ⟨rfl, rfl⟩ := hi <;> rfl

theorem encode_of_decodeEvt {w : EvtWord} {i : Instr} (h : decodeEvt w = .ok i) :
    encode i = .evt w := by
  obtain ⟨i', hd, hi⟩ := decodeEvt_isEventRow (ne_zero_of_decodeEvt h)
  cases hd.symm.trans h
  rw [encode_of_isEventRow hi, evtWord_lines]

theorem encode_of_decodeHook {w : HookWord} {i : Instr} (h : decodeHook w = .ok i) :
    encode i = .hook w := by
  obtain ⟨rfl, rfl⟩ | ⟨rfl, rfl⟩ := decodeHook_eq_ok h <;> rfl

theorem decodeHook_oneHot {w : HookWord} (h0 : w ≠ 0b00#2) (h3 : w ≠ 0b11#2) :
    ∃ i, decodeHook w = .ok i := by
  have hw : w = 0b01#2 ∨ w = 0b10#2 := by
    revert w
    decide
  obtain rfl | rfl := hw
  · exact ⟨.aciaPoll, rfl⟩
  · exact ⟨.aciaReset, rfl⟩

/-! ### The obligations -/

/-- Settles O2, by the operation's format: its word's fields select its row again. -/
theorem decodeOfEncode : Obligations.DecodeOfEncode := by
  intro i hwf
  cases i with
  | aciaSr d => exact decode_busWord true false d
  | aciaCw v => exact decode_busWord false false v
  | aciaDr d => exact decode_busWord true true d
  | aciaDw v => exact decode_busWord false true v
  | brk t r => exact decode_evtWord_brk r t
  | tick b r =>
    obtain rfl : b = false := by simpa [Instr.wellFormed] using hwf
    exact decode_evtWord_tick r
  | rebootReq b t =>
    obtain ⟨rfl, rfl⟩ : b = false ∧ t = false := by simpa [Instr.wellFormed] using hwf
    exact decode_evtWord_rebootReq
  | aciaPoll => rfl
  | aciaReset => rfl
  | _ => exact decode_encode_command rfl hwf

/-- Settles O3, interface by interface. -/
theorem encodeOfDecode : Obligations.EncodeOfDecode := by
  intro w i h
  cases w with
  | bus w =>
    cases h
    exact encode_decodeBus w
  | cmd w =>
    cases h
    exact encode_decodeCmd w
  | evt w => exact encode_of_decodeEvt h
  | hook w => exact encode_of_decodeHook h

/-- Settles O4: every `BUS` and `CMD` word has an operation, an `EVT` word one when a line is 1, and a
`HOOK` word one when it is one-hot. -/
theorem wordsWithoutOperation : Obligations.WordsWithoutOperation := by
  intro w
  constructor
  · intro hnone
    cases w with
    | bus w => exact absurd rfl (hnone (decodeBus w))
    | cmd w => exact absurd rfl (hnone (decodeCmd w))
    | evt w =>
      by_contra hw
      obtain ⟨i, hd, -⟩ := decodeEvt_isEventRow fun h => hw (.inl (h ▸ rfl))
      exact hnone i hd
    | hook w =>
      by_contra hw
      obtain ⟨i, hd⟩ := decodeHook_oneHot (fun h => hw (.inr (.inl (h ▸ rfl))))
        fun h => hw (.inr (.inr (h ▸ rfl)))
      exact hnone i hd
  · rintro (rfl | rfl | rfl) i h <;> cases h

/-- Settles O6: the row by the decoder's chain of verbs, the operand by the word it was encoded in. -/
theorem commandRowSelect : Obligations.CommandRowSelect := by
  intro w
  refine ⟨mnemonic_decodeCmd w, fun _ _ h => addr_of_cmdWord (encode_of_decodeCmd h),
    fun _ _ h => addr_of_cmdWord (encode_of_decodeCmd h),
    fun _ _ h => addr_of_cmdWord (encode_of_decodeCmd h),
    fun _ _ h => addr_of_cmdWord (encode_of_decodeCmd h), ?count⟩
  case count =>
    intro n h
    have hw := PortWord.cmd.inj (encode_of_decodeCmd h)
    exact (cmdArg_cmdWord _ _ n).symm.trans (congrArg cmdArg hw)

/-- Settles O5: the mask leaves `RnW` and `A0`, which take four values. -/
theorem busOperationSelect : Obligations.BusOperationSelect := by
  intro w
  refine ⟨decode_bus_of_mask (r := true) (a := false), decode_bus_of_mask (r := false) (a := false),
    decode_bus_of_mask (r := true) (a := true), decode_bus_of_mask (r := false) (a := true), ?_⟩
  rw [busWord_mask]
  cases w.getLsbD 9 <;> cases w.getLsbD 8 <;> decide

/-- Settles O1: the words are closed, and the decoder computes. -/
theorem specWordsDecode : Obligations.SpecWordsDecode := by
  unfold Obligations.SpecWordsDecode
  decide

/-- Settles O7: the lines are closed, and the readers compute. -/
theorem consoleLinesFormWords : Obligations.ConsoleLinesFormWords := by
  refine ⟨?_, ?_, ?_, ?_, ?_, ?_, ?_, ⟨0x0F300000005#41, ?_, ?_⟩, ?_, ?_⟩ <;> decide

end Sys2Proof
end

section
/-! Control writes (R84, R86, R114 to R116): what each field of the byte selects, and that no other
bit is read. -/

namespace Sys2Proof.Machine

/-! ### The write (R114) -/

theorem echoOf_toggle (old bit : Bool) : echoOf .toggle old bit = (old ^^ bit) := by
  cases old <;> cases bit <;> rfl

theorem exec_aciaCw {v : Byte} {s : State} {m : BufferMode}
    (hm : modeOf s.cfg.mode3Policy (ctlMode v) = some m) :
    exec (.aciaCw v) s =
      .next (if ctlFlush v then (s.setControl v m).flush else s.setControl v m).applyTerm := by
  simp only [exec, execAciaCw, hm]

/-- The byte without its reserved bits 6:4 has the same fields. -/
theorem ctl_fields_and (v : Byte) :
    ctlIE (v &&& 0x8F#8) = ctlIE v ∧ ctlEcho (v &&& 0x8F#8) = ctlEcho v ∧
      ctlFlush (v &&& 0x8F#8) = ctlFlush v ∧ ctlMode (v &&& 0x8F#8) = ctlMode v := by
  have hmode : ctlMode (v &&& 0x8F#8) = ctlMode v := by
    rw [ctlMode, BitVec.extractLsb'_and]
    exact BitVec.and_allOnes
  exact ⟨by simp [ctlIE], by simp [ctlEcho], by simp [ctlFlush], hmode⟩

theorem exec_aciaCw_and (v : Byte) (s : State) :
    exec (.aciaCw (v &&& 0x8F#8)) s = exec (.aciaCw v) s := by
  obtain ⟨hie, hecho, hflush, hmode⟩ := ctl_fields_and v
  simp only [exec, execAciaCw, State.setControl, hie, hecho, hflush, hmode]

/-! ### The obligations -/

/-- Settles O13: the mode by the five cases of its field, then the write with and without a flush. -/
theorem controlWriteResult : Obligations.ControlWriteResult := by
  intro v s m hmode
  have hm : modeOf s.cfg.mode3Policy (ctlMode v) = some m := by
    obtain ⟨hv, rfl⟩ | ⟨hv, rfl⟩ | ⟨hv, rfl⟩ | ⟨hv, hp, rfl⟩ | ⟨hv, hp, rfl⟩ := hmode <;>
      simp [modeOf, ctlMode, *]
  refine ⟨echoOf s.cfg.echoSemantics s.echoEnabled (ctlEcho v), ?high, ?low, ?toggle, ?write⟩
  case high => intro h; rw [h]; rfl
  case low => intro h; rw [h]; rfl
  case toggle => intro h; rw [h]; exact echoOf_toggle _ _
  case write =>
    rw [exec_aciaCw hm, ← ctlFlush]
    cases ctlFlush v
    · simp [State.applyTerm, State.emit, State.setControl, ctlIE]
    · simp [State.applyTerm, State.emit, State.setControl, State.flush, ctlIE]

/-- Settles O15: a control write is the write of the byte without those bits. -/
theorem reservedControlBitsIgnored : Obligations.ReservedControlBitsIgnored := by
  intro v v' s h
  rw [← exec_aciaCw_and v, h, exec_aciaCw_and]

end Sys2Proof.Machine
end

section
/-! Words that meet the controller: an event word during execution (R94, R212), the word placed for
the next step (R80), the poll's strobe (R126) and the `REBOOT` command (R180). -/

namespace Sys2Proof.Machine

/-! ### Events during execution (R94, R147, R183) -/

theorem State.events_executing {s : State} {k : Kind} {p : Phase} (hc : s.ctl = .exec k p)
    (hp : p ≠ .suspended) (b t r : Bool) : s.events b t r = s.setEventFlags b t := by
  obtain h | ⟨hidle, -⟩ | ⟨k', hsusp, -⟩ := s.events_cases b t r
  · exact h
  · cases hc.symm.trans hidle
  · cases hc.symm.trans hsusp
    exact absurd rfl hp

/-- Settles O30: outside `IDLE` and `SUSPENDED` the event handler only assigns its flags. -/
theorem eventsDuringExecution : Obligations.EventsDuringExecution := by
  intro s i b t r k p (hi : IsEventRow i b t r) hc hp
  rw [hi.exec_eq, State.events_executing hc hp]
  rfl

/-! ### The placed word (notes/assumptions/32.md) -/

theorem decodeTableWord_eq_some {nbits w : Nat} {i : Instr} (h : decodeTableWord nbits w = some i) :
    ∃ pw, tableWord nbits w = some pw ∧ decode pw = .ok i := by
  unfold decodeTableWord at h
  split at h
  · cases h
  next pw hw =>
    split at h
    next i' hd =>
      cases h
      exact ⟨pw, hw, hd⟩
    · cases h

/-- Two states agree but for the controller's position, with no strobe standing in the second. -/
def State.SameButPosition (s t : State) : Prop :=
  t = { s with
    hook := none
    rebooting := t.rebooting
    ctl := t.ctl
    termExec := t.termExec
    autorunPending := t.autorunPending
    clearPending := t.clearPending }

theorem insideBatch_withBusWord (s : State) (w : BusWord) :
    ∃ k, (s.withPortWord (.bus w)).ctl = .exec k (.batch true) := by
  cases h : s.insideBatch with
  | none => exact ⟨.run, by simp only [State.withPortWord, h]⟩
  | some k => exact ⟨k, by simp only [State.withPortWord, h]⟩

/-- The word is presented on its interface, with the arrivals of `s` still to come. -/
theorem step_withPortWord (s : State) {pw : PortWord} {i : Instr} (hd : decode pw = .ok i) :
    ∃ t, step (s.withPortWord pw) = exec i t ∧ s.SameButPosition t := by
  cases pw with
  | bus w =>
    cases hd
    obtain ⟨k, hc⟩ := insideBatch_withBusWord s w
    refine ⟨{ s.withPortWord (.bus w) with arrivals := s.arrivals }, ?_, rfl⟩
    refine step_arrival_run rfl rfl ?_
    rw [State.present_engineAccess hc]
    exact State.presentAccess_answered
      ((busWordAt_aciaAddr ..).trans (congrArg some (busWord_fields w)))
  | cmd w =>
    cases hd
    exact ⟨{ s.withPortWord (.cmd w) with arrivals := s.arrivals },
      step_arrival_run rfl rfl (State.present_command w rfl), rfl⟩
  | evt w =>
    exact ⟨{ s.withPortWord (.evt w) with arrivals := s.arrivals },
      step_arrival_run rfl rfl (State.present_event hd), rfl⟩
  | hook w => exact ⟨(s.withPortWord (.hook w)).hookServed w, step_strobe rfl hd, rfl⟩

/-- Settles O9: the table's bits are a word of an interface, which its own interface presents. -/
theorem placedWordRunsNext : Obligations.PlacedWordRunsNext := by
  intro s nbits w i h
  obtain ⟨pw, hw, hd⟩ := decodeTableWord_eq_some h
  have hplaced : s.withFetchWord nbits w = s.withPortWord pw := by
    simp only [State.withFetchWord, hw]
  rw [hplaced]
  exact step_withPortWord s hd

/-! ### The poll's two steps (R126) and the `REBOOT` command (R180) -/

/-- Settles O58: the turn strobes, and the poll touches neither the strobe lines nor `ctl`. -/
theorem pollPhaseResult : Obligations.PollPhaseResult := by
  constructor
  case left =>
    intro s u k err hf hc
    have hturn : u.turn = { u with hook := some 0b01#2 } := by simp only [State.turn, hc]
    rw [step_turn hf, hturn]
  case right =>
    intro s k err hook hc
    refine ⟨rfl, ?_⟩
    rw [step_strobe hook (i := .aciaPoll) rfl, State.hookServed_poll hc]
    exact congrArg _ (s.pollAcia_position none (.exec k (.check err)))

/-- The first step of `REBOOT` in the command loop: the iteration begins the sequence and leaves its
clear to the exit of the `RUN`. -/
theorem State.command_reboot {s : State} (hc : s.ctl = .idle) (hb : s.rebooting = false) :
    s.command State.beginReboot =
      { s with
        hook := some 0b10#2
        rebooting := true
        breakRequested := s.breakRequested && decide (s.cfg.brkClearPoint = .afterDispatch)
        clearPending := s.clearPending || decide (s.cfg.brkClearPoint = .afterDispatch) } := by
  rw [s.command_taken _ (s.inCommandLoop_eq_true.mpr ⟨hc, hb⟩)]
  exact State.endDispatch_on _ (State.inCommandLoop_eq_false _ |>.mpr (.inr rfl))

/-- Settles O27: the iteration begins the sequence, and two steps complete it. -/
theorem rebootCommandResult : Obligations.RebootCommandResult := by
  intro s hasArg arg hc hb begun
  constructor
  case left => exact (exec_command rfl s).trans (congrArg _ (State.command_reboot hc hb))
  case right =>
    intro ha
    refine ⟨Config.engineResetPC s.draws, ?_⟩
    rw [steps_rebootSequence (s := begun) rfl hc rfl ha]
    simp [begun, State.finishReboot, State.resetEngine, State.resetAcia, State.startExec, hb]

end Sys2Proof.Machine
end

section
/-! The bus reads, the data write and the hooks as the registers' rules give them (R111, R117, R120,
R121, R125, R128), the reserved mode (R116), and how many interrupt pulses a step issues (R130). -/

namespace Sys2Proof.Machine

/-! ### The reserved mode of a control write (R116) -/

theorem getLsbD_and_of_set (v : Byte) {k : Byte} {n : Nat} (h : k.getLsbD n = true) :
    (v &&& k).getLsbD n = v.getLsbD n := by
  rw [BitVec.getLsbD_and, h, Bool.and_true]

/-- Nothing but the fields of R84 is read, and the mode field only for the mode it selects: a mask
that keeps the three flags, and the selected mode, keeps the write. -/
theorem exec_aciaCw_masked {v k : Byte} {s : State} (hie : ctlIE k = true)
    (hecho : ctlEcho k = true) (hflush : ctlFlush k = true)
    (hmode : modeOf s.cfg.mode3Policy (ctlMode v) = modeOf s.cfg.mode3Policy (ctlMode (v &&& k))) :
    exec (.aciaCw v) s = exec (.aciaCw (v &&& k)) s := by
  have hie' : ctlIE (v &&& k) = ctlIE v := getLsbD_and_of_set v hie
  have hecho' : ctlEcho (v &&& k) = ctlEcho v := getLsbD_and_of_set v hecho
  have hflush' : ctlFlush (v &&& k) = ctlFlush v := getLsbD_and_of_set v hflush
  simp only [exec, execAciaCw, State.setControl, hie', hecho', hflush', hmode]

theorem ctlMode_and (v k : Byte) : ctlMode (v &&& k) = ctlMode v &&& ctlMode k :=
  BitVec.extractLsb'_and

/-- Settles O14: where the policy gives value 3 a mode, the masked field selects that mode too. -/
theorem reservedModePolicies : Obligations.ReservedModePolicies := by
  intro v s (hv : ctlMode v = 3#2)
  refine ⟨fun hp => ?refuse, fun hp => ?asLine, fun hp => ?asRaw⟩
  case refuse =>
    have hnone : modeOf s.cfg.mode3Policy (ctlMode v) = none := by rw [hp, hv]; rfl
    simp only [exec, execAciaCw, hnone]
  case asLine | asRaw =>
    refine exec_aciaCw_masked rfl rfl rfl ?_
    rw [ctlMode_and, hp, hv]
    rfl

/-! ### Bus reads (R111, R117) -/

/-- Settles O12: the byte is the status byte of the flag before the clear. -/
theorem statusReadResult : Obligations.StatusReadResult := by
  intro d s
  refine ⟨statusByte s.interruptPending (Config.statusRsvd s.draws) (!s.inBuf.isEmpty), rfl,
    statusByte_irq .., ?_⟩
  rw [statusByte_rda]
  simp

/-- Settles O16: a data read pops the head of `inBuf`, if there is one. -/
theorem dataReadResult : Obligations.DataReadResult := by
  intro d s
  refine ⟨fun b rest hb => ?pop, fun hb => ?empty⟩
  case pop | empty => simp only [exec, execAciaDr, hb, State.emit]

/-! ### Data writes (R120, R121) -/

theorem flushes_iff (term : List Byte) (mode : BufferMode) (v : Byte) (n : Nat) :
    flushes term mode v n = true ↔ mode = .raw ∨ v ∈ term ∨ n = txCap := by
  cases mode <;> simp [flushes]

theorem exec_aciaDw (v : Byte) (s : State) :
    exec (.aciaDw v) s =
      .next (if flushes s.cfg.lineTerm s.bufferMode v (s.outBuf.length + 1) then
        { s with outBuf := s.outBuf ++ [v] }.flush else { s with outBuf := s.outBuf ++ [v] }) := by
  simp only [exec, execAciaDw, List.length_append, List.length_singleton]

/-- Settles O17: the byte is appended, and the flush is made under R121's condition. -/
theorem dataWriteResult : Obligations.DataWriteResult := by
  intro v s
  constructor
  case left =>
    intro h
    rw [exec_aciaDw, if_pos ((flushes_iff ..).mpr h)]
    rfl
  case right =>
    intro h
    rw [exec_aciaDw, if_neg (mt (flushes_iff ..).mp h)]

/-! ### Hooks (R125, R127, R128) -/

/-- A read of at least one byte, whether or not it fits `inBuf` (R127(d)). -/
theorem State.load_some (s : State) {l : List Byte} (later : List (List Byte)) (h : l ≠ []) :
    s.load l later =
      { s with
        inBuf := l.take rxCap
        inCur := 0
        rx := if l.length ≤ rxCap then later else l.drop rxCap :: later
        interruptPending := s.interruptPending || s.interruptEnabled
        outputs := s.outputs ++ if s.interruptEnabled then [.irqPulse] else [] } := by
  rw [State.load, if_neg (by simpa using h)]
  cases s.interruptEnabled <;> simp

/-- Settles O18: a poll with unread bytes or a dry stream does nothing, and otherwise it loads. -/
theorem pollResult : Obligations.PollResult := by
  intro s
  refine ⟨fun hb => ?unread, fun hr => ?dry, fun later hb hr => ?nothing,
    fun l later hb hr hl => ?loads⟩
  case unread => exact congrArg _ (s.pollAcia_unread hb)
  case dry => exact congrArg _ (s.pollAcia_dry hr)
  case nothing => exact congrArg _ ((s.pollAcia_read hb hr).trans (s.load_nothing later))
  case loads => exact congrArg _ ((s.pollAcia_read hb hr).trans (s.load_some later hl))

/-- Settles O19: the seven assignments of R128, and nothing else. -/
theorem resetHookResult : Obligations.ResetHookResult := fun _ => rfl

/-! ### Interrupt pulses (R125, R130(d)) -/

theorem State.pulses_of_sameOutputs {s t : State} (h : t.outputs = s.outputs) :
    t.pulses = s.pulses := by
  rw [State.pulses, h, ← State.pulses]

theorem State.pulses_of_output {s t : State} {o : Output} (h : t.outputs = s.outputs ++ [o])
    (ho : o ≠ .irqPulse) : t.pulses = s.pulses := by
  rw [State.pulses, h, List.count_append, List.count_singleton, if_neg (by simpa using ho),
    Nat.add_zero, ← State.pulses]

theorem commandBody_pulses (i : Instr) (s : State) : (commandBody i s).pulses = s.pulses := by
  cases i with
  | ctrRead _ => exact State.pulses_of_output rfl nofun
  | stepN n =>
    by_cases hn : n = 0
    · rw [hn, commandBody_stepN_zero]
    · rw [commandBody_stepN_pos hn]
      rfl
  | _ => rfl

theorem State.command_pulses (s : State) (i : Instr) :
    (s.command (commandBody i)).pulses = s.pulses := by
  cases hl : s.inCommandLoop with
  | false => rw [s.command_busy _ hl]
  | true =>
    rw [s.command_taken _ hl]
    exact commandBody_pulses i s.beginIteration

theorem State.turn_pulses (s : State) : s.turn.pulses = s.pulses := by
  have ht := s.turn_cases
  generalize s.turn = t at ht ⊢
  cases ht with
  | reboots => exact State.pulses_of_output rfl nofun
  | calls => exact State.pulses_of_output rfl nofun
  | faults => exact State.pulses_of_output rfl nofun
  | stops => exact State.pulses_of_output rfl nofun
  | _ => rfl

/-- The pulse of a poll: one for a load with interrupts enabled (R125). -/
theorem State.pollAcia_pulses (s : State) :
    s.pollAcia.pulses =
      s.pulses + if s.inBuf = [] ∧ s.pollAcia.inBuf ≠ [] ∧ s.interruptEnabled then 1 else 0 := by
  obtain h | ⟨l, later, hb, -, h⟩ := s.pollAcia_cases <;> rw [h]
  · rw [if_neg fun ⟨he, hne, _⟩ => hne he, Nat.add_zero]
  · by_cases hl : l = []
    · simp [hl, State.load_nothing, hb, State.pulses]
    · rw [s.load_some later hl]
      cases he : s.interruptEnabled <;> simp [State.pulses, hb, hl, rxCap]

/-- No operation but the poll issues a pulse. -/
theorem exec_pulses {i : Instr} {s t : State} (he : exec i s = .next t) (hi : i ≠ .aciaPoll) :
    t.pulses = s.pulses := by
  cases exec_cases he with
  | statusRead d => exact State.pulses_of_output rfl nofun
  | controlWrite v m => exact State.pulses_of_output rfl nofun
  | controlFlush v m =>
    calc (s.setControl v m).flush.applyTerm.pulses
      _ = (s.setControl v m).flush.pulses := State.pulses_of_output rfl nofun
      _ = s.pulses := State.pulses_of_output rfl nofun
  | dataReadEmpty d hb => exact State.pulses_of_output rfl nofun
  | dataRead d b rest hb => exact State.pulses_of_output rfl nofun
  | dataFlush v => exact State.pulses_of_output rfl nofun
  | command i _ => exact s.command_pulses i
  | event i b t' r _ =>
    exact State.pulses_of_sameOutputs (congrArg State.outputs (s.events_frame b t' r) :)
  | poll => exact absurd rfl hi
  | _ => rfl

/-- The pulses of an operation: only the poll loads a batch, and only the poll issues a pulse. -/
theorem exec_pulses_loaded {i : Instr} {s t : State} (he : exec i s = .next t) :
    t.pulses = s.pulses + if s.inBuf = [] ∧ t.inBuf ≠ [] ∧ s.interruptEnabled then 1 else 0 := by
  by_cases hi : i = .aciaPoll
  · subst hi
    cases he
    exact s.pollAcia_pulses
  · rw [if_neg fun ⟨hb, hne, _⟩ => hi (eq_aciaPoll_of_receivesTo he (.inl ⟨hb, hne⟩)), Nat.add_zero]
    exact exec_pulses he hi

/-- A step that runs no operation issues no pulse. -/
theorem step_cases_pulses {s t : State} (h : step s = .next t) :
    (∃ i u, fetch s = .run i u ∧ exec i u = .next t) ∨
      t.inBuf = s.inBuf ∧ t.pulses = s.pulses := by
  obtain hrun | hd | ⟨u, hf, rfl⟩ := step_cases h
  · exact .inl hrun
  · right
    have ht := fetch_done_frame hd
    exact ⟨(congrArg State.inBuf ht :),
      State.pulses_of_sameOutputs (congrArg State.outputs ht :)⟩
  · right
    obtain ⟨-, l, rfl⟩ := fetch_turn_frame hf
    exact ⟨(congrArg State.inBuf (State.turn_frame _) :), State.turn_pulses _⟩

/-- Settles O50: a step that runs an operation issues the operation's pulses, and no other step
loads a batch or issues one. -/
theorem onePulsePerLoadedBatch : Obligations.OnePulsePerLoadedBatch := by
  intro s t h
  obtain ⟨i, u, hf, he⟩ | ⟨hb, hp⟩ := step_cases_pulses h
  · have hu := exec_pulses_loaded he
    rw [fetch_run_frame hf] at hu
    exact hu
  · rw [if_neg fun ⟨he, hne, _⟩ => hne (hb.trans he), hp, Nat.add_zero]

end Sys2Proof.Machine
end

section
/-! The throttle timer: the counter's two commands (R150, R151), the phases that count and throttle a
batch (R141 to R144), and the suspension that only an event ends (R145, R146). -/

namespace Sys2Proof.Machine

/-! ### The counter's commands (R150, R151) -/

/-- A command that is over at the end of its dispatch has cleared the flag, under either clear point
(R162). -/
theorem State.command_over {s : State} {body : State → State} (hc : s.ctl = .idle)
    (hb : s.rebooting = false)
    (hbody : body s.beginIteration = { body s.beginIteration with
      cfg := s.cfg
      breakRequested := s.beginIteration.breakRequested
      ctl := s.ctl
      rebooting := s.rebooting }) :
    s.command body = { body s.beginIteration with breakRequested := false } := by
  rw [s.command_taken _ (s.inCommandLoop_eq_true.mpr ⟨hc, hb⟩), State.endDispatch_over, hbody]
  · cases hp : s.cfg.brkClearPoint <;> simp [hp]
  · rw [hbody]
    exact (State.inCommandLoop_eq_true _).mpr ⟨hc, hb⟩

/-- Settles O24: the body of the iteration emits the pair and writes nothing. -/
theorem counterReadResult : Obligations.CounterReadResult := by
  intro s arg hc hb
  exact congrArg _ (State.command_over hc hb rfl)

/-- Settles O25: the body of the iteration writes the counter only. -/
theorem counterClearResult : Obligations.CounterClearResult := by
  intro s hc hb
  exact congrArg _ (State.command_over hc hb rfl)

/-! ### `COUNT` and `THROTTLE` (R141, R143) -/

/-- A count that is positive as a signed word is read the same unsigned (R142). -/
theorem toNat_toInt_of_pos {c : Long} (h : 0 < c.toInt) : c.toInt.toNat = c.toNat := by
  have hmsb : c.msb = false := by simpa [BitVec.msb_eq_toInt] using h.le
  rw [BitVec.toInt_eq_toNat_of_msb hmsb, Int.toNat_natCast]

theorem State.turn_count {s : State} {k : Kind} {c : Long} (hc : s.ctl = .exec k (.count c)) :
    s.turn = s.countPhase k c := by
  simp only [State.turn, hc]

theorem State.turn_throttle {s : State} {k : Kind} {c : Long}
    (hc : s.ctl = .exec k (.throttle c)) : s.turn = s.throttlePhase k c := by
  simp only [State.turn, hc]

/-- Settles O33: the sign of the count decides between the counter and the error code. -/
theorem countPhaseResult : Obligations.CountPhaseResult := by
  intro s u k c hf hc
  rw [step_turn hf, State.turn_count hc]
  constructor
  case left =>
    intro hpos
    rw [u.countPhase_pos k hpos, toNat_toInt_of_pos hpos]
  case right =>
    intro hneg
    rw [u.countPhase_error k hneg]

/-- Settles O34: one clause for each branch of the rate's test. -/
theorem throttlePhaseResult : Obligations.ThrottlePhaseResult := by
  intro s u k c hf hc
  rw [step_turn hf, State.turn_throttle hc]
  exact ⟨fun hr => congrArg _ (u.throttlePhase_unlimited k c hr),
    fun hr hw => congrArg _ (u.throttlePhase_under k c hr hw),
    fun hr hw => congrArg _ (u.throttlePhase_over k c hr hw)⟩

/-! ### The suspension (R145, R146) -/

theorem State.setEventFlags_none (s : State) : s.setEventFlags false false = s := by
  simp [State.setEventFlags]

/-- In `SUSPENDED` a TICK or a BREAK sets its flag and ends the wait; REBOOT_REQ alone does nothing
(notes/assumptions/17.md). -/
theorem State.events_suspended {s : State} {k : Kind} (hc : s.ctl = .exec k .suspended)
    (b t r : Bool) :
    s.events b t r = if b || t then (s.setEventFlags b t).endSuspension k else s := by
  simp only [State.events, hc]
  split
  next => rfl
  next hquiet =>
    obtain ⟨rfl, rfl⟩ : b = false ∧ t = false := by simpa using hquiet
    exact s.setEventFlags_none

/-- Settles O31: the event handler's branch in `SUSPENDED`. -/
theorem eventsEndSuspension : Obligations.EventsEndSuspension := by
  intro s i b t r k (hi : IsEventRow i b t r) hc
  rw [hi.exec_eq, State.events_suspended hc]
  rfl

/-- Of the rows of R163's table only the event's begins in `SUSPENDED`. -/
theorem CtlRow.event_of_suspended {s t : State} {k : Kind} (h : CtlRow s t)
    (hc : s.ctl = .exec k .suspended) :
    ∃ w, s.arrivals.head? = some (.evt w) ∧ (w.getLsbD 0 = true ∨ w.getLsbD 1 = true) := by
  cases h with
  | woken _ w _ ha hw => exact ⟨w, ha, hw⟩
  | command _ _ hp =>
    obtain ⟨hidle, -, -⟩ := atPrompt_eq_true.mp hp
    cases hc.symm.trans hidle
  | autorun hc' | rebooted hc' | call _ hc' | returned _ _ _ _ hc' | counted _ _ hc'
  | failed _ _ hc' | underRate _ _ hc' | overRate _ _ hc' | polled _ _ _ hc' | stopped _ _ hc'
  | again _ _ hc' => cases hc.symm.trans hc'

/-- Settles O35: a step that moves the controller is a row of the table, and the row from `SUSPENDED`
names the event. -/
theorem suspensionNeedsEvent : Obligations.SuspensionNeedsEvent := by
  intro s t k _ hc hs
  obtain hstay | hrow := step_follows_table hs
  · exact .inl (hstay.trans hc)
  · obtain ⟨w, ha, hw⟩ := hrow.event_of_suspended hc
    obtain ⟨later, ha⟩ := List.head?_eq_some_iff.mp ha
    exact .inr ⟨w, later, ha, hw⟩

end Sys2Proof.Machine
end

section
/-! The command loop (R162): what each command leaves in `IDLE` (R165 to R185), the one clear of its
iteration, and the wait of a command during execution (D33). -/

namespace Sys2Proof.Machine

/-! ### Commands in the command loop (R162 to R185) -/

/-- A command that begins an execution operation leaves the clear of `after_dispatch` to the exit
(R162, notes/assumptions/19.md). -/
theorem State.command_begins {s : State} {body : State → State} {k : Kind} {p : Phase}
    (hc : s.ctl = .idle) (hb : s.rebooting = false)
    (hbody : (body s.beginIteration).ctl = .exec k p) :
    s.command body = { body s.beginIteration with
      clearPending := (body s.beginIteration).clearPending ||
        decide ((body s.beginIteration).cfg.brkClearPoint = .afterDispatch) } := by
  rw [s.command_taken _ (s.inCommandLoop_eq_true.mpr ⟨hc, hb⟩)]
  exact State.endDispatch_on _
    ((State.inCommandLoop_eq_false _).mpr (.inl (by rw [hbody]; exact nofun)))

/-- Settles O20: each body begins its operation, `GO_AT` with the PC written. -/
theorem runCommandsStart : Obligations.RunCommandsStart := by
  intro s hc hb begun
  exact ⟨fun _ => congrArg _ (State.command_begins hc hb rfl),
    fun _ _ => congrArg _ (State.command_begins hc hb rfl),
    fun _ _ => congrArg _ (State.command_begins hc hb rfl)⟩

/-- Settles O21: a count that is not zero begins an operation, and `STEP1` is the count one. -/
theorem stepCommandsStart : Obligations.StepCommandsStart := by
  intro s hc hb begun
  have start : ∀ n, n ≠ 0 → exec (.stepN n) s = .next (begun n) := by
    intro n hn
    have hbody : s.beginIteration.startStep n = s.beginIteration.startExec (.step n) :=
      State.startStep_pos _ hn
    refine congrArg _ ((State.command_begins hc hb (congrArg State.ctl hbody)).trans ?_)
    rw [hbody]
    rfl
  exact ⟨start, fun _ => start 1 (by decide), congrArg _ (State.command_over hc hb rfl)⟩

/-- Settles O22: the body of the iteration writes the PC only. -/
theorem setPcResult : Obligations.SetPcResult := by
  intro s hi addr hc hb
  exact congrArg _ (State.command_over hc hb rfl)

/-- Settles O23: the body of the iteration writes the watchpoint only. -/
theorem watchpointSetResult : Obligations.WatchpointSetResult := by
  intro s hi addr hc hb
  exact congrArg _ (State.command_over hc hb rfl)

/-- Settles O26: the body of the iteration writes nothing. -/
theorem undefinedCommandResult : Obligations.UndefinedCommandResult := by
  intro s w hc hb
  exact congrArg _ (State.command_over hc hb rfl)

/-! ### The iteration's clear, whatever the command (R162) -/

/-- With `before_dispatch` the clear stands before the command, and none is left. -/
theorem State.command_clearsBefore {s : State} (i : Instr) (hl : s.inCommandLoop = true)
    (hp : s.cfg.brkClearPoint = .beforeDispatch) :
    (s.command (commandBody i)).breakRequested = false ∧
      (s.command (commandBody i)).clearPending = s.clearPending := by
  rw [s.command_taken _ hl, commandBody_frame]
  simp [hp]

/-- With `after_dispatch` the clear stands after the command, or is left to the exit of what the
command has begun. -/
theorem State.command_clearsAfter {s : State} (i : Instr) (hl : s.inCommandLoop = true)
    (hp : s.cfg.brkClearPoint = .afterDispatch) :
    let t := s.command (commandBody i)
    t.inCommandLoop = true ∧ t.breakRequested = false ∧ t.clearPending = s.clearPending ∨
      t.inCommandLoop = false ∧ t.breakRequested = s.breakRequested ∧ t.clearPending = true := by
  intro t
  have ht : t = (commandBody i s.beginIteration).endDispatch := s.command_taken _ hl
  have hloop : t.inCommandLoop = (commandBody i s.beginIteration).inCommandLoop := by rw [ht]; rfl
  rw [hloop, ht]
  have hbody := commandBody_frame i s.beginIteration
  generalize commandBody i s.beginIteration = u at hbody ⊢
  cases hu : u.inCommandLoop with
  | true =>
    rw [u.endDispatch_over hu, hbody]
    exact .inl (by simp [hp])
  | false =>
    rw [u.endDispatch_on hu, hbody]
    exact .inr (by simp [hp])

/-- Settles O28: the two clear points of a command's iteration, and the iteration of a line that is
not presented. -/
theorem commandLoopClearsBreak : Obligations.CommandLoopClearsBreak := by
  constructor
  case left =>
    intro s t i hi hc hb he
    have hl : s.inCommandLoop = true := s.inCommandLoop_eq_true.mpr ⟨hc, hb⟩
    rw [exec_command hi] at he
    cases he
    exact ⟨State.command_clearsBefore i hl, State.command_clearsAfter i hl⟩
  case right =>
    intro s t text later hook ha hc hb hauto hw hs
    have hl : s.inCommandLoop = true := s.inCommandLoop_eq_true.mpr ⟨hc, hb⟩
    rw [step_arrival_done hook ha
      (State.present_lineRejected (atPrompt_eq_true.mpr ⟨hc, hb, hauto⟩) hw),
      State.rejectLine_taken { s with arrivals := later } hl] at hs
    cases hs
    exact ⟨rfl, rfl⟩

/-! ### Commands that wait (R162, D33) -/

theorem State.atPrompt_of_not_inCommandLoop {s : State} (hl : s.inCommandLoop = false) :
    s.atPrompt = false := by
  rw [State.atPrompt, hl, Bool.false_and]

/-- Away from the prompt a command word or a line waits while the controller takes its turn. -/
theorem State.present_commandWaits {s : State} (t : State) {a : Arrival} (hp : s.atPrompt = false)
    (hcmd : (∃ w, a = .cmd w) ∨ ∃ text, a = .line text) : s.present t a = .turn s := by
  obtain ⟨w, rfl⟩ | ⟨text, rfl⟩ := hcmd
  · exact if_neg (Bool.eq_false_iff.mp hp)
  · exact if_neg (Bool.eq_false_iff.mp hp)

/-- Settles O29: the command loop does not have control, so no iteration is made and the prompt does
not act. -/
theorem commandsWaitDuringExecution : Obligations.CommandsWaitDuringExecution := by
  constructor
  case left =>
    intro s i hi hbusy
    rw [exec_command hi, s.command_busy _ (s.inCommandLoop_eq_false.mpr hbusy)]
  case right =>
    intro s a later hook ha hbusy hcmd
    have hp : s.atPrompt = false :=
      State.atPrompt_of_not_inCommandLoop (s.inCommandLoop_eq_false.mpr hbusy)
    refine ⟨step_turn ((fetch_arrival hook ha).trans (State.present_commandWaits _ hp hcmd)), ?_⟩
    rw [State.turn_frame]
    exact ha

end Sys2Proof.Machine
end

section
/-! The controller's phases `BATCH` and `CHECK` (R161, R163, R205), and the chains of phases that
end an execution operation: an erroring batch (R200) and the batches of a `Step` (R173, R174). -/

namespace Sys2Proof.Machine

/-! ### `BATCH` (R161, R163) -/

theorem State.turn_call {s : State} {k : Kind} (hc : s.ctl = .exec k (.batch false)) :
    s.turn = s.callEngine k := by
  simp only [State.turn, hc]

/-- Settles O36: one clause for each kind of the call. -/
theorem batchCallResult : Obligations.BatchCallResult := by
  intro s u k hf hc call
  rw [step_turn hf, State.turn_call hc]
  refine ⟨?step, ?run, ?runUntil⟩
  case step => rintro n rfl; rfl
  case run => rintro rfl; rfl
  case runUntil => rintro a rfl; rfl

theorem State.insideBatch_eq_none {s : State} :
    s.insideBatch = none ↔ ∀ k, s.ctl ≠ .exec k (.batch true) := by
  simp only [ne_eq, ← insideBatch_eq_some, Option.eq_none_iff_forall_ne_some]

theorem State.present_batchReturn {s : State} (t : State) {k : Kind}
    (hc : s.ctl = .exec k (.batch true)) (c : Long) (pc : Addr) (rb : Bool) :
    s.present t (.batchReturn c pc rb) = .done (t.returnBatch k c pc rb) := by
  simp only [State.present, insideBatch_eq_some.mpr hc]

theorem State.present_returnWaits {s : State} (t : State) (hout : s.insideBatch = none) (c : Long)
    (pc : Addr) (rb : Bool) : s.present t (.batchReturn c pc rb) = .turn s := by
  simp only [State.present, hout]

/-- Settles O37: the return is presented inside a batch, and waits elsewhere. -/
theorem batchReturnResult : Obligations.BatchReturnResult := by
  intro s later c pc rb hook ha
  constructor
  case left =>
    intro k hc
    exact step_arrival_done hook ha (State.present_batchReturn _ hc c pc rb)
  case right =>
    intro hout
    exact step_turn ((fetch_arrival hook ha).trans
      (State.present_returnWaits _ (State.insideBatch_eq_none.mpr hout) c pc rb))

/-! ### `CHECK` (R163, R167, R170, R174, R205) -/

theorem State.turn_check {s : State} {k : Kind} {err : Option Long}
    (hc : s.ctl = .exec k (.check err)) : s.turn = s.checkPhase k err := by
  simp only [State.turn, hc]

/-- Settles O38: one clause for each kind's stop conditions. -/
theorem checkPhaseResult : Obligations.CheckPhaseResult := by
  intro s u k hf hc exit again
  rw [step_turn hf, State.turn_check hc]
  refine ⟨?run, ?runUntil, ?step⟩
  case run =>
    rintro rfl
    exact apply_ite Host.Outcome.next ..
  case runUntil =>
    rintro a rfl
    exact (apply_ite Host.Outcome.next ..).trans
      (congrArg (ite _ _) (apply_ite Host.Outcome.next ..))
  case step =>
    rintro n rfl
    exact apply_ite Host.Outcome.next ..

/-- Settles O39: `CHECK` takes the error before any other condition. -/
theorem engineErrorEntry : Obligations.EngineErrorEntry := by
  intro s u k code hf hc
  rw [step_turn hf, State.turn_check hc]
  rfl

/-! ### The poll of an iteration (R126) -/

/-- The state at `CHECK` once the iteration's poll has been served. -/
def State.polled (s : State) (k : Kind) (err : Option Long) : State :=
  { s.pollAcia with hook := none, ctl := .exec k (.check err) }

/-- What the poll of an iteration leaves alone. -/
theorem State.polled_frame (s : State) (k : Kind) (err : Option Long) :
    s.polled k err =
      { s with
        inBuf := s.pollAcia.inBuf
        inCur := s.pollAcia.inCur
        rx := s.pollAcia.rx
        interruptPending := s.pollAcia.interruptPending
        outputs := s.pollAcia.outputs
        hook := none
        ctl := .exec k (.check err) } := by
  rw [State.polled, State.pollAcia_frame]

/-- The strobe and its service take `POLL` to `CHECK`, with the error as it is. -/
theorem steps_poll {s : State} {k : Kind} {err : Option Long} (hf : fetch s = .turn s)
    (hc : s.ctl = .exec k (.poll err)) : steps 2 s = .next (s.polled k err) := by
  obtain ⟨hstrobe, hserve⟩ := pollPhaseResult
  obtain ⟨-, hserved⟩ := hserve { s with hook := some 0b01#2 } k err rfl hc
  rw [steps_succ 1 (hstrobe s s k err hf hc), steps_succ 0 hserved, steps, State.polled]
  have hposition := s.pollAcia_position (some 0b01#2) s.ctl
  rw [hposition]

/-! ### An erroring batch (R200, R205) -/

theorem State.polled_position (s : State) (c : Ctl) (k : Kind) (err : Option Long) :
    ({ s with ctl := c } : State).polled k err = s.polled k err := by
  have h : ({ s with ctl := c } : State).pollAcia = { s.pollAcia with hook := s.hook, ctl := c } :=
    s.pollAcia_position s.hook c
  rw [State.polled, h, State.polled]

/-- Settles O40: the error is found at `COUNT`, the poll still runs, and `CHECK` takes the error. -/
theorem erroringBatchStops : Obligations.ErroringBatchStops := by
  intro s k c hook ha hc hneg
  have hframe := s.polled_frame k (some c)
  have hcount : step s = .next { s with ctl := .exec k (.poll (some c)) } :=
    (countPhaseResult s s k c (fetch_nobody hook ha) hc).2 hneg
  have hpoll : steps 2 { s with ctl := .exec k (.poll (some c)) } = .next (s.polled k (some c)) :=
    s.polled_position (.exec k (.poll (some c))) k (some c) ▸ steps_poll (fetch_nobody hook ha) rfl
  have hquiet : fetch (s.polled k (some c)) = .turn (s.polled k (some c)) :=
    fetch_nobody rfl ((congrArg State.arrivals hframe).trans ha)
  have hcheck := engineErrorEntry _ _ k c hquiet rfl
  refine ⟨_, (steps_succ 3 hcount).trans ((steps_add 2 1 hpoll).trans (steps_succ 0 hcheck)),
    rfl, rfl, ?flag, ?counter, ?window, ?pc, ?acia, rfl⟩
  case flag => rw [hframe]
  case counter => rw [hframe]
  case window => rw [hframe]
  case pc => rw [hframe]
  case acia => exact ⟨rfl, rfl, rfl, rfl, rfl, rfl, rfl, rfl⟩

/-! ### The batches of a `Step` (R173, R174) -/

/-- The engine's moves when it only returns, batch after batch. -/
def batchReturns (rets : List (Long × Addr × Bool)) : List Arrival :=
  rets.map fun x => .batchReturn x.1 x.2.1 x.2.2

/-- Outside a batch a return waits, so the controller takes its turn. -/
theorem fetch_returnsWait {s : State} {rets : List (Long × Addr × Bool)} (hook : s.hook = none)
    (ha : s.arrivals = batchReturns rets) (hout : s.insideBatch = none) : fetch s = .turn s := by
  cases rets with
  | nil => exact fetch_nobody hook ha
  | cons x rets => exact (fetch_arrival hook ha).trans (State.present_returnWaits _ hout ..)

/-- A `Step` with `n` batches to do stands before the call of the next one, unthrottled, and its
batches return `rets`, each with a positive count. -/
structure State.StepReady (s : State) (n : Long) (rets : List (Long × Addr × Bool)) : Prop where
  ctl : s.ctl = .exec (.step n) (.batch false)
  hook : s.hook = none
  rate : s.rate = 0
  arrivals : s.arrivals = batchReturns rets
  positive : ∀ x ∈ rets, 0 < x.1.toInt

section Batch

variable (s : State) (n : Long) (x : Long × Addr × Bool) (rets : List (Long × Addr × Bool))

/-- The state at `COUNT` after the call of a `Step`'s batch and its return `x`, with `rets` to
follow. -/
def State.batchReturned : State :=
  { s.callEngine (.step n) with
    arrivals := batchReturns rets }.returnBatch (.step n) x.1 x.2.1 x.2.2

/-- The state at `THROTTLE` after that. -/
def State.batchCounted : State :=
  { s.batchReturned n x rets with
    cycleCounter := s.cycleCounter + x.1.toNat
    ctl := .exec (.step n) (.throttle x.1) }

/-- The state at `POLL` after that, unthrottled. -/
def State.batchUnthrottled : State :=
  { s.batchCounted n x rets with ctl := .exec (.step n) (.poll none) }

/-- The state at `CHECK` after that. -/
def State.batchPolled : State := (s.batchUnthrottled n x rets).polled (.step n) none

variable {s n x rets}

/-- `BATCH`: the call of the engine, and its return. -/
theorem State.StepReady.steps_return (h : s.StepReady n (x :: rets)) :
    steps 2 s = .next (s.batchReturned n x rets) := by
  have hquiet : fetch s = .turn s :=
    fetch_returnsWait h.hook h.arrivals (by rw [State.insideBatch, h.ctl])
  have hcall : step s = .next (s.callEngine (.step n)) := by
    rw [step_turn hquiet, State.turn_call h.ctl]
  have hreturn : step (s.callEngine (.step n)) = .next (s.batchReturned n x rets) :=
    step_arrival_done h.hook h.arrivals (State.present_batchReturn _ rfl ..)
  rw [steps_succ 1 hcall, steps_succ 0 hreturn, steps]

/-- `COUNT` and `THROTTLE`: the count is added, and with `R = 0` nothing else is. -/
theorem State.StepReady.steps_count (h : s.StepReady n (x :: rets)) :
    steps 2 (s.batchReturned n x rets) = .next (s.batchUnthrottled n x rets) := by
  have hcount : fetch (s.batchReturned n x rets) = .turn (s.batchReturned n x rets) :=
    fetch_returnsWait h.hook rfl rfl
  have hthrottle : fetch (s.batchCounted n x rets) = .turn (s.batchCounted n x rets) :=
    fetch_returnsWait h.hook rfl rfl
  have hturn : (s.batchReturned n x rets).turn = s.batchCounted n x rets :=
    State.countPhase_pos _ _ (h.positive x List.mem_cons_self)
  have hturn' : (s.batchCounted n x rets).turn = s.batchUnthrottled n x rets :=
    State.throttlePhase_unlimited _ _ _ h.rate
  rw [steps_succ 1 (step_turn hcount), hturn, steps_succ 0 (step_turn hthrottle), hturn', steps]

/-- The seven steps of one batch end with its `CHECK`. -/
theorem State.StepReady.steps_iteration (h : s.StepReady n (x :: rets)) :
    steps 7 s = .next ((s.batchPolled n x rets).checkPhase (.step n) none) := by
  have hpoll : steps 2 (s.batchUnthrottled n x rets) = .next (s.batchPolled n x rets) :=
    steps_poll (fetch_returnsWait h.hook rfl rfl) rfl
  have hcheck : fetch (s.batchPolled n x rets) = .turn (s.batchPolled n x rets) :=
    fetch_returnsWait rfl (congrArg State.arrivals (State.polled_frame ..)) rfl
  rw [steps_add 2 5 h.steps_return, steps_add 2 3 h.steps_count, steps_add 2 1 hpoll,
    steps_succ 0 (step_turn hcheck), State.turn_check rfl, steps]

end Batch

/-- What one batch of a `Step` leaves at its `CHECK`: the flag forced (R174), the count added, its
return used up. -/
theorem State.batchPolled_fields (s : State) (n : Long) (x : Long × Addr × Bool)
    (rets : List (Long × Addr × Bool)) :
    let t := s.batchPolled n x rets
    t.hook = none ∧ t.rate = s.rate ∧ t.arrivals = batchReturns rets ∧
      t.clearPending = s.clearPending ∧ t.breakRequested = true ∧
      t.cycleCounter = s.cycleCounter + x.1.toNat := by
  intro t
  have ht : t = _ := State.polled_frame ..
  rw [ht]
  exact ⟨rfl, rfl, rfl, rfl, rfl, rfl⟩

theorem State.pollAcia_count (s : State) {o : Output} (ho : o ≠ .irqPulse) :
    s.pollAcia.outputs.count o = s.outputs.count o := by
  obtain h | ⟨l, later, -, -, h⟩ := s.pollAcia_cases <;> rw [h]
  by_cases hl : l = []
  · rw [hl, State.load_nothing]
  · rw [s.load_some later hl]
    cases s.interruptEnabled <;> simp [ho.symm]

theorem State.batchPolled_calls (s : State) (n : Long) (x : Long × Addr × Bool)
    (rets : List (Long × Addr × Bool)) :
    (s.batchPolled n x rets).outputs.count (.engineBatch true) =
      s.outputs.count (.engineBatch true) + 1 :=
  calc
    _ = (s.outputs ++ [Output.engineBatch true]).count (.engineBatch true) :=
      (s.batchUnthrottled n x rets).pollAcia_count (o := .engineBatch true) nofun
    _ = _ := by rw [List.count_append, List.count_singleton_self]

theorem State.checkPhase_last (s : State) : s.checkPhase (.step 1) none = s.leaveExec .brk := rfl

theorem State.checkPhase_more (s : State) {n : Long} (hn : n ≠ 1) :
    s.checkPhase (.step n) none = s.nextIteration (.step (n - 1)) := if_neg hn

theorem toNat_sub_one {n : Long} (hn : n ≠ 0) : (n - 1).toNat + 1 = n.toNat := by
  bv_omega

/-- Settles O41, by induction on the returns: seven steps for a batch, whose check leaves after the
last one and goes on with one less after any other. -/
theorem stepRunsExactlyCountBatches : Obligations.StepRunsExactlyCountBatches := by
  intro n s rets hn hlen hpos hc hook hr ha
  induction rets generalizing n s with
  | nil => exact absurd (BitVec.eq_of_toNat_eq hlen.symm) hn
  | cons x rets ih =>
    have hiter := State.StepReady.steps_iteration ⟨hc, hook, hr, ha, hpos⟩
    obtain ⟨hook', hr', ha', hclear, hbrk, hcounter⟩ := s.batchPolled_fields n x rets
    have hcalls := s.batchPolled_calls n x rets
    generalize s.batchPolled n x rets = u at hiter hook' hr' ha' hclear hbrk hcounter hcalls
    by_cases hlast : n = 1
    case pos =>
      subst hlast
      obtain rfl : rets = [] := by simpa using hlen
      refine ⟨_, hiter.trans (congrArg _ u.checkPhase_last), rfl, rfl, ha', ?_, ?_, ?_, ?_⟩
      · simpa using hcounter
      · simp [hcalls]
      · simp
      · simp [hbrk, hclear]
    case neg =>
      have hless : (n - 1).toNat + 1 = n.toNat := toNat_sub_one hn
      have hn' : n - 1 ≠ 0 := sub_ne_zero.mpr hlast
      have hlen' : rets.length = (n - 1).toNat := by
        rw [← hless] at hlen
        exact Nat.succ.inj hlen
      obtain ⟨t, hsteps, hidle, hterm, hdone, hcounter', hcalls', hresult, hflag⟩ :=
        ih (n - 1) (u.nextIteration (.step (n - 1))) hn' hlen'
          (fun y hy => hpos y (List.mem_cons_of_mem _ hy)) rfl hook' (hr'.trans hr) ha'
      refine ⟨t, ?_, hidle, hterm, hdone, ?_, ?_, hresult, hflag.trans (congrArg _ hclear)⟩
      · rw [← hless, Nat.mul_succ, Nat.add_comm]
        exact (steps_add 7 _ (hiter.trans (congrArg _ (u.checkPhase_more hlast)))).trans hsteps
      · simp [hcounter', hcounter, Nat.add_assoc]
      · rw [hcalls', State.nextIteration_outputs, hcalls, ← hless, Nat.add_right_comm,
          Nat.add_assoc]

end Sys2Proof.Machine
end
